-- ==== Sys2Proof/Word.lean ====
section
/-! DEFINITION. The word of the frame ring and the line clock's value, with no operation beyond the core ones. -/

namespace Sys2Proof

/-- A word is 16 bits: every frame, report, command entry and window is a row of words (00 Conventions). -/
abbrev Word := BitVec 16

/-- A line-clock value, a 32-bit count of ticks of 10 µs (R60). -/
abbrev Clock := BitVec 32

end Sys2Proof
end

