-- ==== Sys2Proof/Config.lean ====
section
/-! DEFINITION. The constants of the part, each from the rule it names.
The manual leaves no result undefined, so there is no free value here. -/

namespace Sys2Proof.Config

/-- The Command Queue holds up to 48 commands (R136). -/
abbrev queueCapacity : Nat := 48
/-- A command area is eight command places (R137). -/
abbrev commandPlaces : Nat := 8
/-- The Park List holds up to 16 entries (R111). -/
abbrev parkCapacity : Nat := 16
/-- The Sample List holds up to 4 requests (R98). -/
abbrev sampleCapacity : Nat := 4
/-- A REPORT frame carries 0 to 12 reports (R128). -/
abbrev maxReports : Nat := 12
/-- CLEAR WINDOW completes 1000 ticks after its taking (R160). -/
abbrev clearWindowTicks : Nat := 1000
/-- RESET NODE completes 2000 ticks after its taking (R151). -/
abbrev resetNodeTicks : Nat := 2000
/-- A millisecond is 100 ticks of 10 µs (R67, R134). -/
abbrev ticksPerMs : Nat := 100
/-- Record pulses stop at 65535 (R6). -/
abbrev maxPulses : Nat := 65535
/-- The slot word of "none" (R163). -/
abbrev noneWord : Word := 0xFFFF
/-- The trailing link's slot field for "none" (R168). -/
abbrev noTrailing : Nat := 127
/-- The exit position X (00 Stations and positions). -/
abbrev exitPosition : Nat := 63
/-- GAP_LIMIT after cold reset, in ms (R134). -/
abbrev coldGapLimit : Word := 50
/-- The untrimmed factor, 1024/1024 (R64), and a Trim Table row's cold FACTOR (R62). -/
abbrev unitFactor : Nat := 1024

end Sys2Proof.Config
end

