-- ==== Sys2Proof/Machine/Types.lean ====
section
/-! DEFINITION. The manual's vocabulary: modes, states, kinds, causes, alerts, statuses and the contents of frames. -/

namespace Sys2Proof.Machine

/-- The node modes (R140). -/
inductive Mode where
  | waitSync | standby | run | drain | trip
  deriving DecidableEq, Repr

/-- The four trip causes (R146); NONE is the absence of one (R140). -/
inductive TripCause where
  | vent | linkGap | trackLost | queueFull
  deriving DecidableEq, Repr

/-- The 15 alert kinds (R162). -/
inductive AlertKind where
  | uncodedCan | slotEmpty | parkFull | sampleLost | frameDamaged | linkGap | trackLost | headFault
  | strayFlow | strayEvent | staleReport | lateReport | queueFull | vent | trip
  deriving DecidableEq, Repr

/-- The alert set: one place for each of the 15 kinds, as NODE word 2 shows it (R162, R167). -/
abbrev AlertSet := BitVec 15

/-- The 18 causes (R6, R167). -/
inductive Cause where
  | noHead | noClamp | shortGas | overtime | noBottom | headFault | headStopped | jogBack | frameLoss
  | tripped | tempRange | missingValue | gasMass | crimpHeight | crimpDiameter | chargeTime | overshoot | noCrimp
  deriving DecidableEq, Repr

/-- A cause set: one place for each of the 18 causes, as RING words 19 and 20 show it (R7, R167). -/
abbrev CauseSet := BitVec 18

/-- The states of a record (R5). -/
inductive RecordState where
  | empty | loaded | final
  deriving DecidableEq, Repr

/-- The verdicts (R94). -/
inductive Verdict where
  | pass | reject | sample
  deriving DecidableEq, Repr

/-- The movement an INDEX frame carries (01 Advances). -/
inductive Advance where
  | forward | dwell | reverse
  deriving DecidableEq, Repr

/-- The head states (R36). -/
inductive HeadState where
  | idle | engaged | clamped | charging | settling | crimping | crimped | aborting | disabled | faulted
  deriving DecidableEq, Repr

/-- The kinds of head event (R56). -/
inductive EventKind where
  | clamped | opened | closed | bottom | fault
  deriving DecidableEq, Repr

/-- The kinds of MEASURE report (R82). -/
inductive MeasureKind where
  | height | diameter | gross
  deriving DecidableEq, Repr

/-- The kinds of head command (R136). -/
inductive CommandKind where
  | engage | openGas | closeGas | crimp | release | abort
  deriving DecidableEq, Repr

/-- The direction of the service pointer (R156). -/
inductive Direction where
  | up | down
  deriving DecidableEq, Repr

/-- The statuses of a REPLY (R167). -/
inductive Status where
  | done | accepted | parked | syncing | busy | notAwake | refusedMode | badRequest | badWindow | badIndex
  | badValue | readOnly | parkFull | parkEmpty | underMark | noScope | scopeOpen | notEmpty | badStations | listFull
  deriving DecidableEq, Repr

/-- A link or tag: a ring slot and the serial of the record meant (R9). -/
structure Link where
  slot : Fin 64
  serial : Word
  deriving DecidableEq, Repr

/-- What a sample request asks for (R98). -/
inductive SampleKind where
  | any
  | slot (s : Fin 8)
  | head (h : Fin 24)
  deriving DecidableEq, Repr

/-- A sample request (R98). -/
structure SampleRequest where
  kind : SampleKind
  tag : BitVec 8
  deriving DecidableEq, Repr

/-- The candidate reported by the infeed (R23). -/
structure Candidate where
  code : Option (Fin 16)
  tare : Word
  temperature : Option Int
  deriving DecidableEq, Repr

/-- A head command (R136). -/
structure HeadCommand where
  head : Fin 24
  kind : CommandKind
  argument : Word
  deriving DecidableEq, Repr

/-- A parked recipe write (R111). -/
structure ParkEntry where
  slot : Fin 8
  word : Fin 16
  value : Word
  deriving DecidableEq, Repr

/-- The frame gap timer (R134): RUNNING holds the clock value of the last arrival. -/
inductive GapTimer where
  | stopped
  | running (since : Clock)
  | expired
  deriving DecidableEq, Repr

/-- An armed charge-limit timer: the departure's clock value and the duration in ticks (R61, R67). -/
structure Deadline where
  since : Clock
  ticks : Nat
  deriving DecidableEq, Repr

/-- The windows a CLEAR WINDOW can be accepted for (R160). -/
inductive ClearTarget where
  | trim | recipe | sample
  deriving DecidableEq, Repr

/-- The busy operation, with the clock value at its taking (R140, R160). -/
inductive BusyOp where
  | idle
  | clearWindow (target : ClearTarget) (since : Clock)
  | resetNode (since : Clock)
  deriving DecidableEq, Repr

/-- The service pointer without its direction (R156). -/
structure Pointer where
  window : Fin 10
  index : Nat
  deriving DecidableEq, Repr

/-- A frame in transit between its arrival and its departure (R125).
`accepted` holds the words before the command area, `reply` those before the node status slot:
the rest is written at the departure. -/
inductive TransitFrame where
  | unchanged (words : List Word)
  | accepted (lead : List Word)
  | reply (lead : List Word)
  deriving DecidableEq, Repr

/-- What the part takes from an INDEX frame (R125, R164). -/
structure IndexFrame where
  vent : Bool
  count : Word
  phase : Fin 24
  advance : Advance
  deriving DecidableEq, Repr

/-- The four report kinds as their words give them (R165).
`none` for an event or measure kind is a code that names no kind. -/
inductive Report where
  | infeed (codePresent : Bool) (product : Fin 16) (tare : Word) (temperaturePresent : Bool) (temperature : Word)
  | event (head : Word) (kind : Option EventKind) (lag : Word)
  | flow (head : Word) (pulses : BitVec 8)
  | measure (kind : Option MeasureKind) (ok : Bool) (slot serial value : Word)
  deriving DecidableEq, Repr

/-- What the part takes from a REPORT frame (R132). -/
structure ReportFrame where
  vent : Bool
  reports : List Report
  deriving DecidableEq, Repr

/-- The request words of a SERVICE frame (R164). -/
structure ServiceFrame where
  destination : Word
  code : Word
  tag : BitVec 8
  operand0 : Word
  operand1 : Word
  operand2 : Word
  deriving DecidableEq, Repr

/-- The class LP gives a frame by its words (R125, R128). -/
inductive FrameClass where
  | damaged
  | unknown
  | index (f : IndexFrame)
  | report (f : ReportFrame)
  | carrier (vent : Bool)
  | service (f : ServiceFrame)
  | reply
  deriving DecidableEq, Repr

/-- The mode asked for by a MODE request (R143). -/
inductive ModeAsked where
  | run | drain | standby
  deriving DecidableEq, Repr

/-- The requests a SERVICE frame can carry (R154, R166); `unknown` is a code that names none of the 19. -/
inductive Request where
  | sync | status
  | point (window index direction : Word)
  | read
  | write (value : Word)
  | mode (asked : Option ModeAsked)
  | headEnable (selector value1 value2 : Word)
  | headDisable (selector value1 value2 : Word)
  | headStop (selector value1 value2 : Word)
  | sample (kind argument tag : Word)
  | scopeOpen | scopeClose | scopeAbandon | unpark
  | clearAlerts (kinds : Word)
  | clearTrip
  | clearWindow (window : Word)
  | tallyClear | resetNode
  | unknown
  deriving DecidableEq, Repr

/-- The status and the four result words of a REPLY; a result word no rule names is 0 (R154). -/
structure Answer where
  status : Status
  result0 : Word := 0
  result1 : Word := 0
  result2 : Word := 0
  result3 : Word := 0
  deriving DecidableEq, Repr

/-- The admission decision (R26): HOLD with the alert it raises, or FEED of a product code. -/
inductive FeedDecision where
  | hold (alert : Option AlertKind)
  | feed (candidate : Candidate) (product : Fin 16)
  deriving DecidableEq, Repr

/-- What TU writes into an INDEX frame: feed slot (true is FEED), gate slot (absent is NONE), tags K and W (R11, R20). -/
structure IndexSlots where
  feed : Bool
  gate : Option Verdict
  tagK : Option Link
  tagW : Option Link
  deriving DecidableEq, Repr

end Sys2Proof.Machine
end

