-- ==== Sys2Proof/Syntax.lean ====
section
/-! DEFINITION. The commands of the block: one constructor per row of spec/opcode_table.json.
A frame command carries the words of a frame that arrives at the link input (log entry 1).
A request command is the arrival of an accepted SERVICE frame addressed to the node that carries the request (log entry 2). -/

namespace Sys2Proof

/-- The commands, in the table's order. `tag` is the request tag of the SERVICE frame (R164). -/
inductive Instr where
  /-- COLD_RESET (R140): the cold reset pin is asserted. -/
  | coldReset
  /-- COLD_RESET_RELEASE (R169): the pin is released with this value on the six address straps. -/
  | coldResetRelease (straps : BitVec 6)
  /-- INDEX_FRAME (R131): an accepted INDEX frame arrives. -/
  | indexFrame (words : List Word)
  /-- REPORT_FRAME (R132): an accepted REPORT frame arrives. -/
  | reportFrame (words : List Word)
  /-- CARRIER_FRAME (R131): an accepted CARRIER frame arrives. -/
  | carrierFrame (words : List Word)
  /-- SERVICE_FRAME (R126): an accepted SERVICE frame addressed to the node arrives. -/
  | serviceFrame (words : List Word)
  /-- FOREIGN_FRAME (R126): a SERVICE frame for another node, or a REPLY, arrives. -/
  | foreignFrame (words : List Word)
  /-- UNKNOWN_FRAME (R125): a frame of none of the five kinds arrives. -/
  | unknownFrame (words : List Word)
  /-- DAMAGED_FRAME (R129): a damaged frame arrives. -/
  | damagedFrame (words : List Word)
  /-- BYPASS_FRAME (R127): a frame arrives while the node is in bypass. -/
  | bypassFrame (words : List Word)
  /-- FRAME_DEPARTURE (R137): the oldest frame in transit leaves at the link output. -/
  | frameDeparture
  /-- FRAME_GAP_EXPIRY (R134). -/
  | frameGapExpiry
  /-- CHARGE_LIMIT_EXPIRY (R68): the next due expiry, in order of head number. -/
  | chargeLimitExpiry
  /-- SYNC (R141). -/
  | sync (tag : BitVec 8)
  /-- STATUS (R159). -/
  | status (tag : BitVec 8)
  /-- POINT (R156). -/
  | point (tag : BitVec 8) (window index direction : Word)
  /-- READ (R157). -/
  | read (tag : BitVec 8)
  /-- WRITE (R158). -/
  | write (tag : BitVec 8) (value : Word)
  /-- MODE_RUN (R143). -/
  | modeRun (tag : BitVec 8)
  /-- MODE_DRAIN (R143). -/
  | modeDrain (tag : BitVec 8)
  /-- MODE_STANDBY (R143). -/
  | modeStandby (tag : BitVec 8)
  /-- HEAD_ENABLE (R52), with the head selector of R51. -/
  | headEnable (tag : BitVec 8) (selector value1 value2 : Word)
  /-- HEAD_DISABLE (R53). -/
  | headDisable (tag : BitVec 8) (selector value1 value2 : Word)
  /-- HEAD_STOP (R54). -/
  | headStop (tag : BitVec 8) (selector value1 value2 : Word)
  /-- SAMPLE (R99). -/
  | sample (tag : BitVec 8) (kind argument sampleTag : Word)
  /-- SCOPE_OPEN (R117). -/
  | scopeOpen (tag : BitVec 8)
  /-- SCOPE_CLOSE (R118). -/
  | scopeClose (tag : BitVec 8)
  /-- SCOPE_ABANDON (R119). -/
  | scopeAbandon (tag : BitVec 8)
  /-- UNPARK (R120). -/
  | unpark (tag : BitVec 8)
  /-- CLEAR_ALERTS (R162), with the set of alert kinds. -/
  | clearAlerts (tag : BitVec 8) (kinds : Word)
  /-- CLEAR_TRIP (R150). -/
  | clearTrip (tag : BitVec 8)
  /-- CLEAR_WINDOW (R160). -/
  | clearWindow (tag : BitVec 8) (window : Word)
  /-- TALLY_CLEAR (R104). -/
  | tallyClear (tag : BitVec 8)
  /-- RESET_NODE (R151). -/
  | resetNode (tag : BitVec 8)
  /-- CLEAR_WINDOW_COMPLETION (R161). -/
  | clearWindowCompletion
  /-- WARM_RESET_COMPLETION (R152). -/
  | warmResetCompletion
  /-- LINE_CLOCK_TICK (R60). -/
  | lineClockTick
  deriving DecidableEq, Repr

end Sys2Proof
end

