-- ==== Sys2Proof/Decode.lean ====
section
/-! DEFINITION. Reading frames: the check word (R128), the class of a frame, and the layouts of R164 to R166;
and the table's own decoder, which has no row with bits to read. -/

namespace Sys2Proof

/-- The command a word spells by the table's bits: the table gives no row any bits. -/
def decodeTableWord (_nbits _w : Nat) : Option Instr := none

namespace Machine

/-- The XOR fold of a row of words (R128). -/
def foldWords (ws : List Word) : Word := ws.foldl (· ^^^ ·) 0

/-- A row of words with its check word behind it (R128). -/
def withCheck (ws : List Word) : List Word := ws ++ [foldWords ws]

/-- The last word matches the fold of the others (R128). A row of no words has no check word (log entry 11). -/
def checkMatches (ws : List Word) : Bool :=
  match ws.getLast? with
  | none => false
  | some c => foldWords ws.dropLast == c

/-- Word i of a frame; a frame of its kind's length has it. -/
def frameWord (ws : List Word) (i : Nat) : Word := ws.getD i 0

/-- Advance codes (R164); code 0 is none. -/
def decodeAdvance (w : Word) : Option Advance :=
  match (w.extractLsb' 8 2).toNat with
  | 1 => some .forward
  | 2 => some .dwell
  | 3 => some .reverse
  | _ => none

/-- A head number, when it is one (R165). -/
def decodeHead (n : Nat) : Option (Fin 24) := if h : n < 24 then some ⟨n, h⟩ else none

/-- A ring slot number, when it is one (R163). -/
def decodeSlot (n : Nat) : Option (Fin 64) := if h : n < 64 then some ⟨n, h⟩ else none

/-- An INDEX frame of 27 words with a good advance and phase (R128, R164). -/
def decodeIndex (ws : List Word) : FrameClass :=
  if ws.length = 27 then
    match decodeHead ((frameWord ws 3).extractLsb' 0 5).toNat, decodeAdvance (frameWord ws 3) with
    | some φ, some a => .index ⟨(frameWord ws 1).getLsbD 0, frameWord ws 2, φ, a⟩
    | _, _ => .damaged
  else .damaged

/-- Event kind codes (R165). -/
def decodeEventKind (w : Word) : Option EventKind :=
  match (w.extractLsb' 0 3).toNat with
  | 0 => some .clamped
  | 1 => some .opened
  | 2 => some .closed
  | 3 => some .bottom
  | 4 => some .fault
  | _ => none

/-- Measure kind codes (R165). -/
def decodeMeasureKind (w : Word) : Option MeasureKind :=
  match (w.extractLsb' 0 2).toNat with
  | 0 => some .height
  | 1 => some .diameter
  | 2 => some .gross
  | _ => none

/-- The four words of a report (R165); a kind other than the four gives none. -/
def decodeReport (w0 w1 w2 w3 : Word) : Option Report :=
  match (w0.extractLsb' 12 4).toNat with
  | 1 => some (.infeed (w0.getLsbD 8) (Fin.ofNat 16 (w0.extractLsb' 0 4).toNat) w1 (w0.getLsbD 9) w2)
  | 2 => some (.event w1 (decodeEventKind w0) w2)
  | 3 => some (.flow w1 (w2.extractLsb' 0 8))
  | 4 => some (.measure (decodeMeasureKind w0) (w0.getLsbD 4) w1 w2 w3)
  | _ => none

/-- The first n reports of a row of words, when all of them are of the four kinds (R128). -/
def decodeReports : Nat → List Word → Option (List Report)
  | 0, _ => some []
  | n + 1, w0 :: w1 :: w2 :: w3 :: rest =>
    match decodeReport w0 w1 w2 w3, decodeReports n rest with
    | some r, some rs => some (r :: rs)
    | _, _ => none
  | _ + 1, _ => none

/-- A REPORT frame of 4n + 21 words with n at most 12 and every report of a known kind (R128, R164). -/
def decodeReportFrame (ws : List Word) : FrameClass :=
  let n := (frameWord ws 2).toNat
  if n ≤ Config.maxReports ∧ ws.length = 4 * n + 21 then
    match decodeReports n (ws.drop 3) with
    | some rs => .report ⟨(frameWord ws 1).getLsbD 0, rs⟩
    | none => .damaged
  else .damaged

/-- The words of a SERVICE frame (R164). -/
def decodeService (ws : List Word) : ServiceFrame :=
  ⟨frameWord ws 1, frameWord ws 2, (frameWord ws 3).extractLsb' 0 8, frameWord ws 4, frameWord ws 5, frameWord ws 6⟩

/-- LP's class of a frame (R125, R128): a frame whose check word does not match, and one of the five kinds
that is not well formed, is damaged; a kind word other than 1 to 5 is unknown. -/
def classify (ws : List Word) : FrameClass :=
  if checkMatches ws then
    match (frameWord ws 0).toNat with
    | 1 => decodeIndex ws
    | 2 => decodeReportFrame ws
    | 3 => if ws.length = 20 then .carrier ((frameWord ws 1).getLsbD 0) else .damaged
    | 4 => if ws.length = 8 then .service (decodeService ws) else .damaged
    | 5 => if ws.length = 11 then .reply else .damaged
    | _ => .unknown
  else .damaged

/-- The mode a MODE operand asks for (R166). -/
def decodeModeAsked (w : Word) : Option ModeAsked :=
  match w.toNat with
  | 0 => some .standby
  | 1 => some .run
  | 2 => some .drain
  | _ => none

/-- The request a SERVICE frame carries, by its code (R166). -/
def ServiceFrame.request (f : ServiceFrame) : Request :=
  match f.code.toNat with
  | 1 => .sync
  | 2 => .status
  | 3 => .point f.operand0 f.operand1 f.operand2
  | 4 => .read
  | 5 => .write f.operand0
  | 6 => .mode (decodeModeAsked f.operand0)
  | 7 => .headEnable f.operand0 f.operand1 f.operand2
  | 8 => .headDisable f.operand0 f.operand1 f.operand2
  | 9 => .headStop f.operand0 f.operand1 f.operand2
  | 10 => .sample f.operand0 f.operand1 f.operand2
  | 11 => .scopeOpen
  | 12 => .scopeClose
  | 13 => .scopeAbandon
  | 14 => .unpark
  | 15 => .clearAlerts f.operand0
  | 16 => .clearTrip
  | 17 => .clearWindow f.operand0
  | 18 => .tallyClear
  | 19 => .resetNode
  | _ => .unknown

/-- The words of a SERVICE frame (R164), with its check word. -/
def serviceWords (f : ServiceFrame) : List Word :=
  withCheck [4, f.destination, f.code, f.tag.setWidth 16, f.operand0, f.operand1, f.operand2]

end Machine

end Sys2Proof
end

