-- ==== Sys2Proof/Machine/Codes.lean ====
section
/-! DEFINITION. The code values and bit places of R163 to R168, and the set operations on causes and alerts. -/

namespace Sys2Proof.Machine

/-- A flag as a number, for building packed words. -/
def flagBit (b : Bool) : Nat := b.toNat

/-- Bit places of the alerts (R167). -/
def AlertKind.place : AlertKind → Nat
  | .uncodedCan => 0 | .slotEmpty => 1 | .parkFull => 2 | .sampleLost => 3 | .frameDamaged => 4
  | .linkGap => 5 | .trackLost => 6 | .headFault => 7 | .strayFlow => 8 | .strayEvent => 9
  | .staleReport => 10 | .lateReport => 11 | .queueFull => 12 | .vent => 13 | .trip => 14

/-- Adding a kind already present leaves the set as it was (R162). -/
def addAlert (k : AlertKind) (a : AlertSet) : AlertSet := a ||| BitVec.twoPow 15 k.place

/-- Whether a kind is in the set. -/
def hasAlert (k : AlertKind) (a : AlertSet) : Bool := a.getLsbD k.place

/-- Bit places of the causes (R167). -/
def Cause.place : Cause → Nat
  | .noHead => 0 | .noClamp => 1 | .shortGas => 2 | .overtime => 3 | .noBottom => 4 | .headFault => 5
  | .headStopped => 6 | .jogBack => 7 | .frameLoss => 8 | .tripped => 9 | .tempRange => 10
  | .missingValue => 11 | .gasMass => 12 | .crimpHeight => 13 | .crimpDiameter => 14 | .chargeTime => 15
  | .overshoot => 16 | .noCrimp => 17

/-- The set grows by union (R7). -/
def addCause (k : Cause) (c : CauseSet) : CauseSet := c ||| BitVec.twoPow 18 k.place

/-- Adding an optional cause. -/
def addCauseIf (k : Option Cause) (c : CauseSet) : CauseSet :=
  match k with
  | some k => addCause k c
  | none => c

/-- Whether a cause is in the set. -/
def hasCause (k : Cause) (c : CauseSet) : Bool := c.getLsbD k.place

/-- The alert of a trip cause's own name (R146). -/
def TripCause.alert : TripCause → AlertKind
  | .vent => .vent | .linkGap => .linkGap | .trackLost => .trackLost | .queueFull => .queueFull

/-- Trip-cause codes (R165); NONE is 0. -/
def tripCauseCode : Option TripCause → Nat
  | none => 0 | some .vent => 1 | some .linkGap => 2 | some .trackLost => 3 | some .queueFull => 4

/-- Mode codes (R165); WAIT_SYNC has none and shows 0. -/
def Mode.code : Mode → Nat
  | .waitSync => 0 | .standby => 0 | .run => 1 | .drain => 2 | .trip => 3

/-- Busy-operation codes (R166, R168). -/
def BusyOp.code : BusyOp → Nat
  | .idle => 0 | .clearWindow _ _ => 1 | .resetNode _ => 2

/-- Whether a busy operation runs (R138). -/
def BusyOp.running : BusyOp → Bool
  | .idle => false | .clearWindow _ _ => true | .resetNode _ => true

/-- Status codes (R167). -/
def Status.code : Status → Word
  | .done => 0 | .accepted => 1 | .parked => 2 | .syncing => 3 | .busy => 4 | .notAwake => 5
  | .refusedMode => 6 | .badRequest => 7 | .badWindow => 8 | .badIndex => 9 | .badValue => 10
  | .readOnly => 11 | .parkFull => 12 | .parkEmpty => 13 | .underMark => 14 | .noScope => 15
  | .scopeOpen => 16 | .notEmpty => 17 | .badStations => 18 | .listFull => 19

/-- Head state codes (R167). -/
def HeadState.code : HeadState → Nat
  | .idle => 0 | .engaged => 1 | .clamped => 2 | .charging => 3 | .settling => 4 | .crimping => 5
  | .crimped => 6 | .aborting => 7 | .disabled => 8 | .faulted => 9

/-- The bound states of R36. -/
def HeadState.isBound : HeadState → Bool
  | .engaged | .clamped | .charging | .settling | .crimping | .crimped => true
  | .idle | .aborting | .disabled | .faulted => false

/-- Record state codes (R168). -/
def RecordState.code : RecordState → Nat
  | .empty => 0 | .loaded => 1 | .final => 2

/-- Gate slot and verdict codes (R164, R168); NONE is 0. -/
def verdictCode : Option Verdict → Nat
  | none => 0 | some .pass => 1 | some .reject => 2 | some .sample => 3

/-- Command kind codes (R165); 0 is an empty place. -/
def CommandKind.code : CommandKind → Nat
  | .engage => 1 | .openGas => 2 | .closeGas => 3 | .crimp => 4 | .release => 5 | .abort => 6

/-- Direction codes (R166). -/
def Direction.code : Direction → Nat
  | .up => 0 | .down => 1

/-- Sample kind codes (R166). -/
def SampleKind.code : SampleKind → Nat
  | .any => 0 | .slot _ => 1 | .head _ => 2

/-- The argument the SAMPLE window shows; ANY has none and shows 0 (R98, log entry 13). -/
def SampleKind.argument : SampleKind → Nat
  | .any => 0 | .slot s => s.val | .head h => h.val

/-- The two words of a command entry (R165). -/
def HeadCommand.entry (c : HeadCommand) : List Word :=
  [BitVec.ofNat 16 (c.head.val + 256 * c.kind.code), c.argument]

/-- The two words of a station tag: "none" is 0xFFFF and serial 0 (R164). -/
def tagWords : Option Link → List Word
  | none => [Config.noneWord, 0]
  | some l => [BitVec.ofNat 16 l.slot.val, l.serial]

/-- The upper 16 bits of a 32-bit value, shown first (R163). -/
def upperHalf (x : BitVec 32) : Word := x.extractLsb' 16 16

/-- The lower 16 bits of a 32-bit value (R163). -/
def lowerHalf (x : BitVec 32) : Word := x.extractLsb' 0 16

end Sys2Proof.Machine
end

