-- ==== Sys2Proof/Machine/State.lean ====
section
/-! DEFINITION. The state of the part, block by block as 00 "Block overview" groups it, and its value right after cold reset. -/

namespace Sys2Proof.Machine

/-- One record of the Pocket Ring (R6). The cleared values are the defaults. -/
structure Record where
  state : RecordState := .empty
  serial : Word := 0
  product : Fin 16 := 0
  recipe : Fin 8 := 0
  predicted : Fin 24 := 0
  head : Option (Fin 24) := none
  engaged : Bool := false
  bound : Bool := false
  released : Bool := false
  tare : Word := 0
  /-- In 0.1 °C. -/
  temperature : Option Int := none
  doseLoaded : Option Nat := none
  pulses : Nat := 0
  captureClamp : Option Clock := none
  captureOpen : Option Clock := none
  captureClose : Option Clock := none
  captureBottom : Option Clock := none
  height : Option Word := none
  diameter : Option Word := none
  gross : Option Word := none
  causes : CauseSet := 0
  /-- The bound sample request whole, so that a re-arm can return it (R101, log entry 12). -/
  sample : Option SampleRequest := none
  verdict : Option Verdict := none
  deriving DecidableEq, Repr

/-- The cleared record (R8). -/
def Record.cleared : Record := {}

/-- HU's state for one head (R36); the defaults are the cold values (R58, R78). -/
structure HeadContext where
  state : HeadState := .idle
  enabled : Bool := true
  bound : Option Link := none
  trailing : Option Link := none
  clampWait : Nat := 0
  doseCounter : Int := 0
  timer : Option Deadline := none
  deriving DecidableEq, Repr

/-- One row of the Trim Table (R62). -/
structure TrimRow where
  bound : Word := 0
  factor : Word := 1024
  deriving DecidableEq, Repr

/-- The five tallies of one recipe slot, each wrapping mod 2^32 (R103). -/
structure Tally where
  admitted : BitVec 32 := 0
  passed : BitVec 32 := 0
  rejected : BitVec 32 := 0
  sampled : BitVec 32 := 0
  backedOut : BitVec 32 := 0
  deriving DecidableEq, Repr

/-- LP, the Link Port (R126, R133, R134, R136, R23). -/
structure LinkPort where
  transit : List TransitFrame := []
  queue : List HeadCommand := []
  candidate : Option Candidate := none
  lastCount : Word := 0
  lastPhase : Fin 24 := 0
  unchecked : Bool := true
  gapTimer : GapTimer := .stopped
  gapLimit : Word := Config.coldGapLimit
  nodeAddress : BitVec 6 := 0
  deriving DecidableEq, Repr

/-- TU, the Tracking Unit (R1, R4, R29). The seven station words are E, G, C, R, K, W, J. -/
structure TrackingUnit where
  stations : Vector Word 7 := #v[4, 6, 20, 24, 30, 36, 48]
  ring : Vector Record 64 := Vector.replicate 64 Record.cleared
  origin : Fin 64 := 0
  nextSerial : Word := 0
  deriving DecidableEq, Repr

/-- HU, the Head Unit (R36, R62, R63). -/
structure HeadUnit where
  heads : Vector HeadContext 24 := Vector.replicate 24 {}
  trim : Vector TrimRow 16 := Vector.replicate 16 {}
  trimRows : Word := 0
  deriving DecidableEq, Repr

/-- VU, the Verdict Unit (R98, R103). -/
structure VerdictUnit where
  samples : List SampleRequest := []
  tallies : Vector Tally 8 := Vector.replicate 8 {}
  deriving DecidableEq, Repr

/-- RS, the Recipe Store (R106, R108, R111, R117). Word w of slot s is index 16 s + w of `words`;
`scope` is the mark of the open scope, absent when the scope is closed. -/
structure RecipeStore where
  words : Vector Word 128 := Vector.replicate 128 0
  inUse : Vector Nat 8 := Vector.replicate 8 0
  parkList : List ParkEntry := []
  scope : Option Nat := none
  deriving DecidableEq, Repr

/-- NC, Node Control (R140, R156), with the report of TU that the ring is empty (R21). -/
structure NodeControl where
  mode : Mode := .waitSync
  wakeCount : Nat := 0
  tripCause : Option TripCause := none
  alerts : AlertSet := 0
  busy : BusyOp := .idle
  ringEmpty : Bool := true
  pointer : Pointer := ⟨0, 0⟩
  direction : Direction := .up
  latch : Word := 0
  stale : Bool := true
  clockHold : Word := 0
  deriving DecidableEq, Repr

/-- The whole part: its seven blocks (LC is `clock`), the cold reset pin, the frames that have left at the
link output (log entry 5) and the commands that wait. -/
structure State where
  lp : LinkPort
  tu : TrackingUnit
  hu : HeadUnit
  vu : VerdictUnit
  rs : RecipeStore
  nc : NodeControl
  /-- LC, the line clock (R60). -/
  clock : Clock
  /-- True while the cold reset pin is asserted (R60, R169). -/
  coldResetPin : Bool
  /-- Frames that have left at the link output, oldest first. -/
  linkOut : List (List Word)
  /-- Commands that wait, first in first out. -/
  pending : List Instr
  deriving DecidableEq, Repr

/-- The manual describes no event that stops the part: every failure is an alert, a trip, a cause or a
status. So no command ends in a fault, and the type has no constructor (safe: nothing is hidden by a stop). -/
inductive Fault where
  deriving DecidableEq, Repr

/-- Reasons for a command without a meaning. -/
inductive Refusal where
  /-- Raised only by an arm of `exec` that has no meaning yet; no arm raises it (safe). -/
  | notModelled (mnemonic : String)
  deriving DecidableEq, Repr

/-- The part at a cold reset: every block at its cold values, the pin asserted, the clock held at 0
(R140, R60, R22, R35, R58, R78, R98, R105, R124, R139, R156; log entry 7). -/
def State.reset : State where
  lp := {}
  tu := {}
  hu := {}
  vu := {}
  rs := {}
  nc := {}
  clock := 0
  coldResetPin := true
  linkOut := []
  pending := []

end Sys2Proof.Machine
end

