-- ==== Sys2Proof/Machine/Ops.lean ====
section
/-! DEFINITION. The shared operations: reading and writing the blocks' tables, alerts, the Park List's application,
the Command Queue, and the trip entry, each said once. -/

namespace Sys2Proof.Machine

/-! ### Records, heads and stations -/

/-- The record in a ring slot (R4). -/
def State.record (s : State) (k : Fin 64) : Record := s.tu.ring[k]

/-- Writing the record of a ring slot. -/
def State.setRecord (s : State) (k : Fin 64) (r : Record) : State := { s with tu.ring := s.tu.ring.set k r }

/-- The context of a head (R36). -/
def State.head (s : State) (h : Fin 24) : HeadContext := s.hu.heads[h]

/-- Writing the context of a head. -/
def State.setHead (s : State) (h : Fin 24) (c : HeadContext) : State := { s with hu.heads := s.hu.heads.set h c }

/-- The ring slot at position p (R4). -/
def State.slotAt (s : State) (p : Nat) : Fin 64 := Fin.ofNat 64 (s.tu.origin.val + p)

/-- The position at which a ring slot stands (R4). -/
def State.position (s : State) (k : Fin 64) : Nat := (k - s.tu.origin).val

/-- The station words of R1, as positions. -/
def State.stationE (s : State) : Nat := s.tu.stations[0].toNat
/-- G. -/
def State.stationG (s : State) : Nat := s.tu.stations[1].toNat
/-- C. -/
def State.stationC (s : State) : Nat := s.tu.stations[2].toNat
/-- R. -/
def State.stationR (s : State) : Nat := s.tu.stations[3].toNat
/-- K. -/
def State.stationK (s : State) : Nat := s.tu.stations[4].toNat
/-- W. -/
def State.stationW (s : State) : Nat := s.tu.stations[5].toNat
/-- J. -/
def State.stationJ (s : State) : Nat := s.tu.stations[6].toNat

/-- The ring slot at a station: a word above 63 names no position (R1). -/
def State.slotAtStation (s : State) (p : Nat) : Option (Fin 64) := if p ≤ 63 then some (s.slotAt p) else none

/-- The modes in which heads are bound and charges opened (R40, R43). -/
abbrev State.working (s : State) : Prop := s.nc.mode = .run ∨ s.nc.mode = .drain

/-- Every record is EMPTY (R21). -/
def State.allEmpty (s : State) : Bool := s.tu.ring.all (fun r => r.state == .empty)

/-- TU's report to NC (R21). -/
def reportRing (s : State) : State := { s with nc.ringEmpty := s.allEmpty }

/-- The tag of the record in a slot (R9). -/
def State.tagOf (s : State) (k : Fin 64) : Link := ⟨k, (s.record k).serial⟩

/-- A tag names the LOADED record that holds its serial (R9). -/
def State.namesLoaded (s : State) (l : Link) : Bool :=
  (s.record l.slot).state == .loaded && (s.record l.slot).serial == l.serial

/-- A writer writes a record that is LOADED and that the link names (R7, R9). -/
def writeLoaded (l : Link) (f : Record → Record) (s : State) : State :=
  if s.namesLoaded l then s.setRecord l.slot (f (s.record l.slot)) else s

/-- Adding a cause to the record a link names (R7). -/
def addCauseTo (l : Link) (c : Cause) (s : State) : State :=
  writeLoaded l (fun r => { r with causes := addCause c r.causes }) s

/-- Raising an alert into NC's alert set (R162). -/
def raiseAlert (a : AlertKind) (s : State) : State := { s with nc.alerts := addAlert a s.nc.alerts }

/-- Raising an alert, if there is one. -/
def raiseAlertIf (a : Option AlertKind) (s : State) : State :=
  match a with
  | some a => raiseAlert a s
  | none => s

/-! ### The line clock -/

/-- The interval from an earlier clock value to a later one, mod 2^32 (R61). -/
def elapsed (since now : Clock) : Nat := (now - since).toNat

/-- A deadline set at a clock value for a duration is reached (R61). -/
def State.reached (s : State) (since : Clock) (ticks : Nat) : Bool := decide (ticks ≤ elapsed since s.clock)

/-! ### Bypass and frames in transit -/

/-- The straps named no address: 0 and 63 (R126). -/
def State.noAddress (s : State) : Bool := s.lp.nodeAddress == 0 || s.lp.nodeAddress == 63

/-- The link is held: nothing at all is taken from a frame (R127). -/
def State.linkHeld (s : State) : Bool := s.coldResetPin || s.noAddress

/-- Bypass, which is also the bypass relay drive (R127, R169). -/
def State.bypassed (s : State) : Bool := s.linkHeld || s.nc.mode == .waitSync

/-- A frame joins the frames in transit behind every earlier one (R125). -/
def putTransit (t : TransitFrame) (s : State) : State := { s with lp.transit := s.lp.transit ++ [t] }

/-- A frame leaves at the link output (R125). -/
def sendOut (ws : List Word) (s : State) : State := { s with linkOut := s.linkOut ++ [ws] }

/-- In bypass a frame passes unchanged, input to output (R127), behind any frame still in transit (R125, log entry 4). -/
def passBypass (ws : List Word) (s : State) : State :=
  if s.lp.transit.isEmpty then sendOut ws s else putTransit (.unchanged ws) s

/-- The arrival of a frame out of bypass makes the frame gap timer RUNNING from its clock value (R134). -/
def restartGap (s : State) : State := { s with lp.gapTimer := .running s.clock }

/-! ### Recipe words, in-use counts and the Park List -/

/-- The index of word w of recipe slot k (R106). -/
def recipeIndex (k : Fin 8) (w : Fin 16) : Fin 128 := ⟨16 * k.val + w.val, by omega⟩

/-- Word w of recipe slot k (R106). -/
def State.recipeWord (s : State) (k : Fin 8) (w : Fin 16) : Word := s.rs.words[recipeIndex k w]

/-- Storing an entry's value in its word of its slot (R113). -/
def storeEntry (words : Vector Word 128) (e : ParkEntry) : Vector Word 128 :=
  words.set (recipeIndex e.slot e.word) e.value

/-- A slot is closing while at least one entry targets it (R112). -/
def State.closing (s : State) (k : Fin 8) : Bool := s.rs.parkList.any (fun e => e.slot == k)

/-- How many entries, from the oldest, lie outside any open scope (R114, R117). -/
def RecipeStore.outside (rs : RecipeStore) : Nat := rs.scope.getD rs.parkList.length

/-- An entry is applied when its slot is one of those the event names and has no can in use (R114). -/
def RecipeStore.applies (rs : RecipeStore) (slots : Fin 8 → Bool) (e : ParkEntry) : Bool :=
  slots e.slot && rs.inUse[e.slot] == 0

/-- Application (R113, R114): the entries outside any open scope that target the named slots with in-use count 0
are stored oldest first and removed, and the mark falls by their number. -/
def RecipeStore.applyParked (slots : Fin 8 → Bool) (rs : RecipeStore) : RecipeStore :=
  let outside := rs.parkList.take rs.outside
  let applied := outside.filter (rs.applies slots)
  { rs with
    words := applied.foldl storeEntry rs.words
    parkList := outside.filter (fun e => !rs.applies slots e) ++ rs.parkList.drop rs.outside
    scope := rs.scope.map (· - applied.length) }

/-- Application over the whole state. -/
def applyParked (slots : Fin 8 → Bool) (s : State) : State := { s with rs := s.rs.applyParked slots }

/-- The in-use count of a slot (R108). -/
def State.inUse (s : State) (k : Fin 8) : Nat := s.rs.inUse[k]

/-- The rise of an in-use count at a FEED (R30). -/
def raiseInUse (k : Fin 8) (s : State) : State := { s with rs.inUse := s.rs.inUse.set k (s.inUse k + 1) }

/-- The fall of an in-use count at a verdict or back-out (R95, R32); at 0 the slot's entries are applied (R114). -/
def lowerInUse (k : Fin 8) (s : State) : State :=
  let s := { s with rs.inUse := s.rs.inUse.set k (s.inUse k - 1) }
  if s.inUse k = 0 then applyParked (· == k) s else s

/-- Entry to STANDBY (R144, R116): the mode, and the application of every entry outside an open scope. -/
def enterStandby (s : State) : State := applyParked (fun _ => true) { s with nc.mode := .standby }

/-! ### Tallies and the Sample List -/

/-- Changing the tallies of one recipe slot (R103). -/
def onTally (k : Fin 8) (f : Tally → Tally) (s : State) : State :=
  { s with vu.tallies := s.vu.tallies.set k (f s.vu.tallies[k]) }

/-- Re-arming (R101, R33): to the front of the list, or dropped with SAMPLE_LOST when the list holds 4. -/
def rearm (q : SampleRequest) (s : State) : State :=
  if s.vu.samples.length < Config.sampleCapacity then { s with vu.samples := q :: s.vu.samples }
  else raiseAlert .sampleLost s

/-- Re-arming the request bound to a record, if there is one (R101). -/
def rearmIf (q : Option SampleRequest) (s : State) : State :=
  match q with
  | some q => rearm q s
  | none => s

/-! ### Unbinding, the trip entry and the Command Queue -/

/-- Unbinding (R37): the bound link goes, the trailing link becomes it, and the record is no longer bound. -/
def unbind (h : Fin 24) (s : State) : State :=
  match (s.head h).bound with
  | none => s
  | some l =>
    writeLoaded l (fun r => { r with bound := false })
      (s.setHead h { s.head h with bound := none, trailing := some l })

/-- Setting the state of a head that leaves its cycle: its charge-limit timer is disarmed (R69). -/
def leaveTo (h : Fin 24) (st : HeadState) (s : State) : State :=
  s.setHead h { s.head h with state := st, timer := none }

/-- Trip entry, step 4 for one head (R147): a head in a bound state is unbound and enters ABORTING. -/
def tripHead (s : State) (h : Fin 24) : State :=
  if (s.head h).state.isBound then leaveTo h .aborting (unbind h s) else s

/-- The ABORT command of a head (R136). -/
def abortCommand (h : Fin 24) : HeadCommand := ⟨h, .abort, 0⟩

/-- The ABORTs a trip entry queues: one for every head then ABORTING, in order of head number (R147). -/
def tripAborts (s : State) : List HeadCommand :=
  ((List.finRange 24).filter (fun h => (s.head h).state == .aborting)).map abortCommand

/-- TRIPPED is added to a LOADED record (R147). -/
def tripRecord (r : Record) : Record :=
  if r.state = .loaded then { r with causes := addCause .tripped r.causes } else r

/-- The trip entry (R147): mode, cause and alert; TRIPPED on every LOADED record; the queue emptied;
bound heads to ABORTING with their ABORTs; every charge-limit timer disarmed. -/
def tripEntry (cause : TripCause) (s : State) : State :=
  let s := raiseAlert .trip { s with nc.mode := .trip, nc.tripCause := some cause }
  let s := { s with tu.ring := s.tu.ring.map tripRecord, lp.queue := [] }
  let s := (List.finRange 24).foldl tripHead s
  { s with
    lp.queue := tripAborts s
    hu.heads := s.hu.heads.map (fun c => { c with timer := none }) }

/-- A trip cause found (R146): a trip in RUN or DRAIN, the alert of its name in TRIP, and in STANDBY
except for TRACK_LOST, which STANDBY does not compare. -/
def requestTrip (cause : TripCause) (s : State) : State :=
  match s.nc.mode with
  | .run => tripEntry cause s
  | .drain => tripEntry cause s
  | .trip => raiseAlert cause.alert s
  | .standby => if cause = .trackLost then s else raiseAlert cause.alert s
  | .waitSync => s

/-- The commands that stay queued when one is queued (R136): an ABORT removes every command of its head,
a CLOSE a queued OPEN of its head. -/
def keepsCommand (c d : HeadCommand) : Bool :=
  match c.kind with
  | .abort => d.head != c.head
  | .closeGas => !(d.head == c.head && d.kind == .openGas)
  | .engage | .openGas | .crimp | .release => true

/-- Queuing a head command (R136): the removals, then the capacity check, then the command as the newest;
with 48 left after the removals it is not added and QUEUE_FULL asks for a trip. -/
def queueCommand (c : HeadCommand) (s : State) : State :=
  let kept := s.lp.queue.filter (keepsCommand c)
  if kept.length < Config.queueCapacity then { s with lp.queue := kept ++ [c] }
  else requestTrip .queueFull { s with lp.queue := kept }

end Sys2Proof.Machine
end

