-- ==== Sys2Proof/Machine/Flags.lean ====
section
/-! DEFINITION. The flag and status words the part computes: the node status slot, the STATUS results, the flag words of
RING, HEADS, PARK, SAMPLE and NODE, and the station table's validity. -/

namespace Sys2Proof.Machine

/-- The node status slot (R138, R165): mode in bits 0-1, busy in bit 2, alert present in bit 3, trip cause in bits 4-6. -/
def State.statusSlot (s : State) : Word :=
  BitVec.ofNat 16 (s.nc.mode.code + 4 * flagBit s.nc.busy.running + 8 * flagBit (s.nc.alerts != 0)
    + 16 * tripCauseCode s.nc.tripCause)

/-- A pointer word (R166): index in bits 0-10, window in bits 11-14, direction in bit 15. -/
def pointerWord (p : Pointer) (d : Direction) : Word :=
  BitVec.ofNat 16 (p.index + 2048 * p.window.val + 32768 * d.code)

/-- The alert set as a word (R167). -/
def State.alertWord (s : State) : Word := s.nc.alerts.setWidth 16

/-- STATUS result 0: mode in bits 0-1, busy operation in bits 4-5 (R166). -/
def State.statusResult0 (s : State) : Word := BitVec.ofNat 16 (s.nc.mode.code + 16 * s.nc.busy.code)

/-- STATUS result 1: stale flag in bit 0, trip cause in bits 4-6 (R166). -/
def State.statusResult1 (s : State) : Word :=
  BitVec.ofNat 16 (flagBit s.nc.stale + 16 * tripCauseCode s.nc.tripCause)

/-- RING word 0 (R168): state, verdict, engaged, bound, released. -/
def Record.flagWord (r : Record) : Word :=
  BitVec.ofNat 16 (r.state.code + 16 * verdictCode r.verdict + 256 * flagBit r.engaged + 512 * flagBit r.bound
    + 1024 * flagBit r.released)

/-- RING word 2 (R168): product code, recipe slot, predicted head. -/
def Record.codeWord (r : Record) : Word :=
  BitVec.ofNat 16 (r.product.val + 16 * r.recipe.val + 256 * r.predicted.val)

/-- RING word 22 (R168): the presence bits. -/
def Record.presenceWord (r : Record) : Word :=
  BitVec.ofNat 16 (flagBit r.head.isSome + 2 * flagBit r.temperature.isSome + 4 * flagBit r.doseLoaded.isSome
    + 8 * flagBit r.captureClamp.isSome + 16 * flagBit r.captureOpen.isSome + 32 * flagBit r.captureClose.isSome
    + 64 * flagBit r.captureBottom.isSome + 128 * flagBit r.height.isSome + 256 * flagBit r.diameter.isSome
    + 512 * flagBit r.gross.isSome + 1024 * flagBit r.sample.isSome)

/-- HEADS word 2 (R168): enabled in bit 15, the trailing link's slot in bits 0-6, 127 for none. -/
def HeadContext.flagWord (c : HeadContext) : Word :=
  BitVec.ofNat 16 ((match c.trailing with | none => Config.noTrailing | some l => l.slot.val) + 32768 * flagBit c.enabled)

/-- PARK word 1 (R168): scope open in bit 15, mark in bits 0-4; a closed scope shows mark 0 (log entry 14). -/
def scopeWord (scope : Option Nat) : Word :=
  match scope with
  | none => 0
  | some m => BitVec.ofNat 16 (m + 32768)

/-- A PARK place's first word (R168). -/
def ParkEntry.placeWord (e : ParkEntry) : Word := BitVec.ofNat 16 (e.word.val + 256 * e.slot.val + 32768)

/-- A SAMPLE place's first word (R168). -/
def SampleRequest.placeWord (q : SampleRequest) : Word :=
  BitVec.ofNat 16 (q.kind.code + 256 * q.kind.argument + 32768)

/-- NODE word 14 (R168): held in bit 15, code present in bit 8, product code in bits 0-3. -/
def candidateWord (c : Option Candidate) : Word :=
  match c with
  | none => 0
  | some c =>
    match c.code with
    | none => BitVec.ofNat 16 32768
    | some p => BitVec.ofNat 16 (32768 + 256 + p.val)

/-- The station table is valid (R3). -/
def State.stationsValid (s : State) : Bool :=
  decide (1 ≤ s.stationE ∧ s.stationE ≤ s.stationG ∧ s.stationG < s.stationC ∧ s.stationC < s.stationR ∧
    s.stationR < s.stationK ∧ s.stationK ≤ s.stationW ∧ s.stationW < s.stationJ ∧ s.stationJ ≤ 62 ∧
    s.stationR - s.stationE ≤ 23)

end Sys2Proof.Machine
end

