-- ==== Sys2Proof/Machine/Operands.lean ====
section
/-! DEFINITION. The operand forms of the requests: windows and their words, the head selector, sample requests,
the ranges of writable words, and the words every window shows. -/

namespace Sys2Proof.Machine

/-! ### Windows and the pointer -/

/-- The lengths of the ten windows (R155). -/
def windowLength (w : Fin 10) : Nat :=
  match w with
  | 0 => 15 | 1 => 7 | 2 => 32 | 3 => 128 | 4 => 8 | 5 => 80 | 6 => 72 | 7 => 1536 | 8 => 34 | 9 => 9

/-- A window number, when it is one (R155). -/
def decodeWindow (w : Word) : Option (Fin 10) := if h : w.toNat < 10 then some ⟨w.toNat, h⟩ else none

/-- A direction operand (R166). -/
def decodeDirection (w : Word) : Option Direction :=
  match w.toNat with
  | 0 => some .up
  | 1 => some .down
  | _ => none

/-- The pointer one word on in its direction, within its window (R157). -/
def Pointer.advance (p : Pointer) (d : Direction) : Pointer :=
  match d with
  | .up => { p with index := if p.index + 1 < windowLength p.window then p.index + 1 else 0 }
  | .down => { p with index := if p.index = 0 then windowLength p.window - 1 else p.index - 1 }

/-! ### The words of the windows (R168) -/

/-- NODE words (R155); words 7 and 8 have their own fill (R156) and show here the clock's upper half and the hold. -/
def State.nodeWord (s : State) (i : Nat) : Word :=
  match i with
  | 0 => BitVec.ofNat 16 s.nc.mode.code
  | 1 => BitVec.ofNat 16 s.nc.busy.code
  | 2 => s.alertWord
  | 3 => BitVec.ofNat 16 (tripCauseCode s.nc.tripCause)
  | 4 => s.lp.gapLimit
  | 5 => s.hu.trimRows
  | 6 => s.lp.nodeAddress.setWidth 16
  | 7 => upperHalf s.clock
  | 8 => s.nc.clockHold
  | 9 => s.lp.lastCount
  | 10 => BitVec.ofNat 16 s.lp.lastPhase.val
  | 11 => BitVec.ofNat 16 s.tu.origin.val
  | 12 => BitVec.ofNat 16 s.lp.queue.length
  | 13 => s.tu.nextSerial
  | 14 => candidateWord s.lp.candidate
  | _ => 0

/-- TRIM words (R62): BOUND of row r at 2r, FACTOR at 2r + 1. -/
def State.trimWord (s : State) (i : Nat) : Word :=
  let row := s.hu.trim[Fin.ofNat 16 (i / 2)]
  if i % 2 = 0 then row.bound else row.factor

/-- The word index of recipe slot and word (R106): 16 s + w. -/
def recipeWordIndex (i : Nat) : Fin 8 × Fin 16 := (Fin.ofNat 8 (i / 16), Fin.ofNat 16 (i % 16))

/-- TALLY words (R168): tally t of slot k at 10k + 2t, upper half first. -/
def State.tallyWord (s : State) (i : Nat) : Word :=
  let t := s.vu.tallies[Fin.ofNat 8 (i / 10)]
  let value := match i % 10 / 2 with
    | 0 => t.admitted | 1 => t.passed | 2 => t.rejected | 3 => t.sampled | _ => t.backedOut
  if i % 2 = 0 then upperHalf value else lowerHalf value

/-- HEADS words (R168): three words for each head. -/
def State.headsWord (s : State) (i : Nat) : Word :=
  let c := s.head (Fin.ofNat 24 (i / 3))
  match i % 3 with
  | 0 => BitVec.ofNat 16 c.state.code
  | 1 => match c.bound with | none => Config.noneWord | some l => BitVec.ofNat 16 l.slot.val
  | _ => c.flagWord

/-- The upper or lower half of an optional capture; absent reads 0 (R163). -/
def captureWord (c : Option Clock) (lower : Bool) : Word :=
  if lower then lowerHalf (c.getD 0) else upperHalf (c.getD 0)

/-- The 24 words of a RING record (R168). -/
def Record.word (r : Record) (f : Nat) : Word :=
  match f with
  | 0 => r.flagWord
  | 1 => r.serial
  | 2 => r.codeWord
  | 3 => BitVec.ofNat 16 ((r.head.map Fin.val).getD 0)
  | 4 => r.tare
  | 5 => BitVec.ofInt 16 (r.temperature.getD 0)
  | 6 => BitVec.ofNat 16 (r.doseLoaded.getD 0)
  | 7 => BitVec.ofNat 16 r.pulses
  | 8 => captureWord r.captureClamp false
  | 9 => captureWord r.captureClamp true
  | 10 => captureWord r.captureOpen false
  | 11 => captureWord r.captureOpen true
  | 12 => captureWord r.captureClose false
  | 13 => captureWord r.captureClose true
  | 14 => captureWord r.captureBottom false
  | 15 => captureWord r.captureBottom true
  | 16 => r.height.getD 0
  | 17 => r.diameter.getD 0
  | 18 => r.gross.getD 0
  | 19 => r.causes.extractLsb' 0 16
  | 20 => (r.causes.extractLsb' 16 2).setWidth 16
  | 21 => match r.sample with | none => 0 | some q => q.tag.setWidth 16
  | 22 => r.presenceWord
  | _ => 0

/-- PARK words (R168): length, scope, then two words for each of 16 places; a place beyond the length is empty (R163). -/
def State.parkWord (s : State) (i : Nat) : Word :=
  match i with
  | 0 => BitVec.ofNat 16 s.rs.parkList.length
  | 1 => scopeWord s.rs.scope
  | i + 2 =>
    match s.rs.parkList[i / 2]? with
    | none => 0
    | some e => if i % 2 = 0 then e.placeWord else e.value

/-- SAMPLE words (R168): the count, then two words for each of four places. -/
def State.sampleWord (s : State) (i : Nat) : Word :=
  match i with
  | 0 => BitVec.ofNat 16 s.vu.samples.length
  | i + 1 =>
    match s.vu.samples[i / 2]? with
    | none => 0
    | some q => if i % 2 = 0 then q.placeWord else q.tag.setWidth 16

/-- The word a window shows at an index below its length (R155, R168). -/
def State.windowWord (s : State) (w : Fin 10) (i : Nat) : Word :=
  match w with
  | 0 => s.nodeWord i
  | 1 => s.tu.stations[Fin.ofNat 7 i]
  | 2 => s.trimWord i
  | 3 => s.rs.words[Fin.ofNat 128 i]
  | 4 => BitVec.ofNat 16 (s.inUse (Fin.ofNat 8 i))
  | 5 => s.tallyWord i
  | 6 => s.headsWord i
  | 7 => (s.record (Fin.ofNat 64 (i / 24))).word (i % 24)
  | 8 => s.parkWord i
  | 9 => s.sampleWord i

/-- Filling the read latch from the word at the pointer (R156): a fill from NODE word 7 also copies the lower half of the
same clock value into the clock hold. -/
def fillLatch (s : State) : State :=
  let s' := { s with nc.latch := s.windowWord s.nc.pointer.window s.nc.pointer.index, nc.stale := false }
  if s.nc.pointer = ⟨0, 7⟩ then { s' with nc.clockHold := lowerHalf s.clock } else s'

/-! ### The ranges of writable words -/

/-- The range a WRITE accepts for a recipe word (R106): words 8 to 11 and 15 take any value. -/
def recipeRange (w : Fin 16) (v : Nat) : Bool :=
  match w.val with
  | 0 => decide (v ≤ 1)
  | 1 => decide (1 ≤ v ∧ v ≤ 20000)
  | 2 => decide (v ≤ 1)
  | 3 => decide (10 ≤ v ∧ v ≤ 5000)
  | 4 => decide (1 ≤ v ∧ v ≤ 8)
  | 5 => decide (v ≤ 31)
  | 6 => decide (v ≤ 10000)
  | 7 => decide (v ≤ 10000)
  | 12 => decide (v ≤ 5000)
  | 13 => decide (v ≤ 5000)
  | 14 => decide (v ≤ 20000)
  | _ => true

/-- GAP_LIMIT takes 5 to 2000 (R134). -/
def gapLimitRange (v : Nat) : Bool := decide (5 ≤ v ∧ v ≤ 2000)
/-- TRIM_ROWS takes 0 to 16 (R63). -/
def trimRowsRange (v : Nat) : Bool := decide (v ≤ 16)
/-- A FACTOR takes 512 to 2047 (R62). -/
def factorRange (v : Nat) : Bool := decide (512 ≤ v ∧ v ≤ 2047)

/-! ### The head selector (R51, R166) -/

/-- The heads a selector names, in order of head number; none is BAD_VALUE. -/
def selectHeads (selector value1 value2 : Word) : Option (List (Fin 24)) :=
  match selector.toNat with
  | 0 => (decodeHead value1.toNat).map (fun h => [h])
  | 1 =>
    if value1.toNat ≤ 24 then
      some ((List.finRange 24).filter (fun h => value1.toNat = 0 ∨ h.val < value1.toNat))
    else none
  | 2 =>
    if value2.toNat < 256 ∧ (value1 ≠ 0 ∨ value2 ≠ 0) then
      some ((List.finRange 24).filter (fun h => if h.val < 16 then value1.getLsbD h.val else value2.getLsbD (h.val - 16)))
    else none
  | _ => none

/-! ### Sample requests (R98, R99, R166) -/

/-- The request a SAMPLE carries; none is BAD_VALUE. ANY ignores its argument. -/
def decodeSample (kind argument tag : Word) : Option SampleRequest :=
  if tag.toNat ≤ 255 then
    match kind.toNat with
    | 0 => some ⟨.any, tag.setWidth 8⟩
    | 1 => if h : argument.toNat < 8 then some ⟨.slot ⟨argument.toNat, h⟩, tag.setWidth 8⟩ else none
    | 2 => (decodeHead argument.toNat).map (fun h => ⟨.head h, tag.setWidth 8⟩)
    | _ => none
  else none

/-- Whether a request matches a can of this recipe slot and predicted head (R98). -/
def SampleKind.isFor (k : SampleKind) (recipe : Fin 8) (predicted : Fin 24) : Bool :=
  match k with
  | .any => true
  | .slot s => s == recipe
  | .head h => h == predicted

/-- The oldest matching request and the list without it (R100). -/
def bindSample (recipe : Fin 8) (predicted : Fin 24) (qs : List SampleRequest) : Option SampleRequest × List SampleRequest :=
  (qs.find? (fun q => q.kind.isFor recipe predicted), qs.eraseP (fun q => q.kind.isFor recipe predicted))

end Sys2Proof.Machine
end

