-- ==== Sys2Proof/Machine/Heads.lean ====
section
/-! DEFINITION. HU, the Head Unit: binding, the opening and end of a charge, the crimp, the release, aborts, faults,
head events, flow reports, the frame loss and the HEAD requests' effect on one head (chapters 3, 4 and 5). -/

namespace Sys2Proof.Machine

/-- The state a head takes when its cycle or its ABORTING ends (R46, R48). -/
def freeState (c : HeadContext) : HeadState := if c.enabled then .idle else .disabled

/-- Adding a cause to the bound record of a head, if it has one. -/
def addBoundCause (h : Fin 24) (c : Cause) (s : State) : State :=
  match (s.head h).bound with
  | some l => addCauseTo l c s
  | none => s

/-- Queuing a command with argument 0 (R136). -/
def queueKind (h : Fin 24) (k : CommandKind) (s : State) : State := queueCommand ⟨h, k, 0⟩ s

/-! ### Binding, aborting -/

/-- Binding (R37) at E: the link both ways, ENGAGED, clamp-wait count 0 (R40). -/
def bindHead (h : Fin 24) (k : Fin 64) (s : State) : State :=
  let s := s.setHead h { s.head h with state := .engaged, bound := some (s.tagOf k), trailing := none, clampWait := 0 }
  s.setRecord k { s.record k with head := some h, bound := true }

/-- An abort (R42, R47, R54): the cause on the bound record, the unbinding, ABORTING, and ABORT queued. -/
def abortHead (h : Fin 24) (c : Cause) (s : State) : State :=
  queueKind h .abort (leaveTo h .aborting (unbind h (addBoundCause h c s)))

/-! ### The charge -/

/-- The highest-numbered row in use whose BOUND is at most the temperature (R64, case 4). -/
def trimRowFor (s : State) (t : Int) : Option (Fin 16) :=
  ((List.finRange 16).filter (fun r => decide (r.val < s.hu.trimRows.toNat ∧ (s.hu.trim[r]).bound.toInt ≤ t))).getLast?

/-- The trim factor and the cause it adds (R64), in the order of its cases. -/
def trimFactor (s : State) (r : Record) : Nat × Option Cause :=
  if s.recipeWord r.recipe 2 = 0 then (Config.unitFactor, none)
  else if s.hu.trimRows = 0 then (Config.unitFactor, none)
  else
    match r.temperature with
    | none => (Config.unitFactor, some .missingValue)
    | some t =>
      match trimRowFor s t with
      | some k => ((s.hu.trim[k]).factor.toNat, none)
      | none => ((s.hu.trim[(0 : Fin 16)]).factor.toNat, some .tempRange)

/-- The pulses a can is owed (R65): (DOSE × factor) div 1024, and 1 when that is 0. -/
def trimmedDose (s : State) (r : Record) : Nat :=
  max 1 ((s.recipeWord r.recipe 1).toNat * (trimFactor s r).1 / 1024)

/-- Opening a charge (R43, R64 to R66): dose loaded and the factor's cause on the record, the counter loaded, CHARGING, OPEN queued. -/
def openCharge (h : Fin 24) (l : Link) (s : State) : State :=
  let r := s.record l.slot
  let dose := trimmedDose s r
  let cause := (trimFactor s r).2
  let s := writeLoaded l (fun r => { r with doseLoaded := some dose, causes := addCauseIf cause r.causes }) s
  let s := s.setHead h { s.head h with state := .charging, doseCounter := dose }
  queueKind h .openGas s

/-- A gas position: from G to C − 1 (R43). -/
def State.atGas (s : State) (p : Nat) : Bool := decide (s.stationG ≤ p ∧ p < s.stationC)

/-- A CLAMPED head whose record stands at a gas position in RUN or DRAIN is opened (R43). -/
def openIfReady (h : Fin 24) (s : State) : State :=
  match (s.head h).bound with
  | some l =>
    if (s.head h).state = .clamped ∧ s.atGas (s.position l.slot) = true ∧ s.working then openCharge h l s else s
  | none => s

/-- A SETTLING head whose record stands from C to R − 1 is sent its CRIMP with CRIMP_DEPTH, in RUN and DRAIN (R45, R79). -/
def sendCrimp (h : Fin 24) (s : State) : State :=
  match (s.head h).bound with
  | some l =>
    if (s.head h).state = .settling ∧ s.stationC ≤ s.position l.slot ∧ s.position l.slot < s.stationR ∧ s.working then
      queueCommand ⟨h, .crimp, s.recipeWord (s.record l.slot).recipe 15⟩ (leaveTo h .crimping s)
    else s
  | none => s

/-- The end of a charge (R44): SETTLING, the timer disarmed, CLOSE queued, and the crimp if the record is at its station (R45). -/
def endCharge (h : Fin 24) (s : State) : State :=
  sendCrimp h (queueKind h .closeGas (leaveTo h .settling s))

/-! ### Forward arrivals -/

/-- The engagement attempt at E with the head the phase puts there (R40, R41). -/
def engagementArrival (φ : Fin 24) (k : Fin 64) (s : State) : State :=
  let r := s.record k
  if r.engaged ∨ r.causes ≠ 0 then s
  else
    let s := s.setRecord k { r with head := some φ, engaged := true }
    if s.working then
      if (s.head φ).state = .idle ∧ (s.head φ).enabled = true then queueKind φ .engage (bindHead φ k s)
      else addCauseTo (s.tagOf k) .noHead s
    else s

/-- The clamp wait of an ENGAGED head at a forward arrival above E (R42). -/
def clampWaitArrival (h : Fin 24) (r : Record) (p : Nat) (s : State) : State :=
  let count := (s.head h).clampWait + 1
  let s := s.setHead h { s.head h with clampWait := count }
  if (s.recipeWord r.recipe 4).toNat < count ∨ p = s.stationC then abortHead h .noClamp s else s

/-- The cause a release at R adds, by the state the arrival finds (R46). -/
def releaseCause (st : HeadState) : Option Cause :=
  match st with
  | .crimping => some .noBottom
  | .settling => some .noCrimp
  | .idle | .engaged | .clamped | .charging | .crimped | .aborting | .disabled | .faulted => none

/-- The release at R (R46): the cause, released, the unbinding, IDLE or DISABLED, RELEASE queued. -/
def releaseArrival (h : Fin 24) (k : Fin 64) (s : State) : State :=
  let cause := releaseCause (s.head h).state
  let s := writeLoaded (s.tagOf k) (fun r => { r with released := true, causes := addCauseIf cause r.causes }) s
  let s := unbind h s
  queueKind h .release (leaveTo h (freeState (s.head h)) s)

/-- The forward arrival of a bound record at a position above E (R39, R42 to R46). -/
def turretArrival (h : Fin 24) (k : Fin 64) (p : Nat) (s : State) : State :=
  if p = s.stationR then releaseArrival h k s
  else
    match (s.head h).state with
    | .engaged => clampWaitArrival h (s.record k) p s
    | .clamped => openIfReady h s
    | .charging => if p = s.stationC then endCharge h (addCauseTo (s.tagOf k) .shortGas s) else s
    | .settling => sendCrimp h s
    | .idle | .crimping | .crimped | .aborting | .disabled | .faulted => s

/-- The head a record is bound to, by its bound flag and head field (R39). -/
def Record.boundHead (r : Record) : Option (Fin 24) := if r.bound then r.head else none

/-- The forward arrival of the record now at position p, if it is LOADED (R12, R39). -/
def forwardArrival (φ : Fin 24) (s : State) (p : Nat) : State :=
  let k := s.slotAt p
  if (s.record k).state = .loaded then
    if p = s.stationE then engagementArrival φ k s
    else
      match (s.record k).boundHead with
      | some h => turretArrival h k p s
      | none => s
  else s

/-- The positions from E to R, in increasing order (R39). -/
def State.turretPositions (s : State) : List Nat :=
  (List.range 64).filter (fun p => decide (s.stationE ≤ p ∧ p ≤ s.stationR))

/-- HU takes the forward arrivals of one advance in increasing order of position (R39). -/
def forwardArrivals (φ : Fin 24) (s : State) : State := s.turretPositions.foldl (forwardArrival φ) s

/-- The reverse arrival at E − 1 of a bound record is a jog-back (R15, R47). -/
def jogBackArrival (s : State) : State :=
  if 1 ≤ s.stationE ∧ s.stationE ≤ 64 then
    let k := s.slotAt (s.stationE - 1)
    if (s.record k).state = .loaded then
      match (s.record k).boundHead with
      | some h => abortHead h .jogBack s
      | none => s
    else s
  else s

/-! ### Head events (R50, R56, R57, R80) -/

/-- The record an event or a flow report goes to (R37, R56, R70): the bound record, or the trailing record while it is
LOADED with the linked serial. -/
def State.target (s : State) (h : Fin 24) : Option Link :=
  ((s.head h).bound.orElse (fun _ => (s.head h).trailing)).filter s.namesLoaded

/-- A first-kept capture (R57). -/
def keepFirst (old : Option Clock) (new : Clock) : Option Clock := some (old.getD new)

/-- Writing the capture of an event's kind (R56, R57). A FAULT is not captured. -/
def Record.capture (r : Record) (k : EventKind) (v : Clock) : Record :=
  match k with
  | .clamped => { r with captureClamp := keepFirst r.captureClamp v }
  | .opened => { r with captureOpen := keepFirst r.captureOpen v }
  | .closed => { r with captureClose := keepFirst r.captureClose v }
  | .bottom => { r with captureBottom := keepFirst r.captureBottom v }
  | .fault => r

/-- The state change of a captured event (R56): CLAMPED moves an ENGAGED head on and opens its charge when it is at a gas
position (R43), BOTTOM moves a CRIMPING head on (R45); OPENED and CLOSED move no state. -/
def eventMove (h : Fin 24) (k : EventKind) (s : State) : State :=
  match k with
  | .clamped =>
    if (s.head h).state = .engaged then openIfReady h (s.setHead h { s.head h with state := .clamped }) else s
  | .bottom => if (s.head h).state = .crimping then s.setHead h { s.head h with state := .crimped } else s
  | .opened => s
  | .closed => s
  | .fault => s

/-- A FAULT event (R50): the alert; a bound head's record takes HEAD_FAULT and the head is unbound and sent ABORT;
every head enters FAULTED, its enabled flag kept. The state change stands before the ABORT is queued (R49, log entry 17). -/
def faultEvent (h : Fin 24) (s : State) : State :=
  let s := raiseAlert .headFault s
  if (s.head h).bound.isSome then
    queueKind h .abort (leaveTo h .faulted (unbind h (addBoundCause h .headFault s)))
  else leaveTo h .faulted s

/-- A captured event of one head (R56): the capture with the arrival's clock value less the lag (R57), then the state change. -/
def headEvent (h : Fin 24) (k : EventKind) (lag : Word) (s : State) : State :=
  match s.target h with
  | none => raiseAlert .strayEvent s
  | some l => eventMove h k (writeLoaded l (fun r => r.capture k (s.clock - lag.setWidth 32)) s)

/-- An EVENT report (R56). -/
def takeEvent (head : Word) (kind : Option EventKind) (lag : Word) (s : State) : State :=
  match decodeHead head.toNat, kind with
  | some h, some .fault => faultEvent h s
  | some h, some k => headEvent h k lag s
  | _, _ => raiseAlert .strayEvent s

/-! ### Flow reports (R70, R71) -/

/-- Adding pulses to the record a link names, stopping at 65535 (R70). -/
def addPulses (l : Link) (n : Nat) (s : State) : State :=
  writeLoaded l (fun r => { r with pulses := min (r.pulses + n) Config.maxPulses }) s

/-- A FLOW report for one head, by its state (R70): a CHARGING head also counts down, and at 0 or below its dose ends. -/
def headFlow (h : Fin 24) (n : Nat) (s : State) : State :=
  match s.target h with
  | none => raiseAlert .strayFlow s
  | some l =>
    let s := addPulses l n s
    if (s.head h).state = .charging then
      let s := s.setHead h { s.head h with doseCounter := (s.head h).doseCounter - n }
      if (s.head h).doseCounter ≤ 0 then endCharge h s else s
    else s

/-- A FLOW report (R70). -/
def takeFlow (head : Word) (pulses : BitVec 8) (s : State) : State :=
  match decodeHead head.toNat with
  | some h => headFlow h pulses.toNat s
  | none => raiseAlert .strayFlow s

/-! ### The charge-limit timer -/

/-- A charging head's armed deadline is reached (R61, R68). -/
def State.chargeDue (s : State) (h : Fin 24) : Bool :=
  match (s.head h).timer with
  | some d => (s.head h).state == .charging && s.reached d.since d.ticks
  | none => false

/-- The head whose expiry is taken next: the lowest-numbered one whose deadline is reached (R68). -/
def State.nextDue (s : State) : Option (Fin 24) := (List.finRange 24).find? s.chargeDue

/-- The expiry of one head's timer (R68): OVERTIME, CLOSE queued, the timer disarmed, SETTLING. -/
def chargeExpiry (h : Fin 24) (s : State) : State := endCharge h (addBoundCause h .overtime s)

/-- The departure of an OPEN arms the head's timer from this clock value (R67). -/
def armTimer (h : Fin 24) (s : State) : State :=
  match (s.head h).bound with
  | some l =>
    s.setHead h { s.head h with
      timer := some ⟨s.clock, (s.recipeWord (s.record l.slot).recipe 3).toNat * Config.ticksPerMs⟩ }
  | none => s

/-- The departure of an ABORT brings an ABORTING head to IDLE or DISABLED (R48). -/
def abortDeparts (h : Fin 24) (s : State) : State :=
  if (s.head h).state = .aborting then s.setHead h { s.head h with state := freeState (s.head h) } else s

/-- The effect in the part of a command's departure (R137). -/
def commandDeparts (s : State) (c : HeadCommand) : State :=
  match c.kind with
  | .openGas => armTimer c.head s
  | .abort => abortDeparts c.head s
  | .engage | .closeGas | .crimp | .release => s

/-! ### Frame loss (R130) -/

/-- The states in which a damaged frame marks the bound record (R130). -/
def HeadState.losesFrames : HeadState → Bool
  | .clamped | .charging | .crimping => true
  | .idle | .engaged | .settling | .crimped | .aborting | .disabled | .faulted => false

/-- FRAME_LOSS on the bound record of one head (R130). -/
def frameLossHead (s : State) (h : Fin 24) : State :=
  if (s.head h).state.losesFrames then addBoundCause h .frameLoss s else s

/-- FRAME_LOSS on the bound record of every head in CLAMPED, CHARGING or CRIMPING (R130). -/
def frameLoss (s : State) : State := (List.finRange 24).foldl frameLossHead s

/-! ### The HEAD requests on one head -/

/-- HEAD ENABLE on one head (R52). -/
def enableHead (s : State) (h : Fin 24) : State :=
  let c := s.head h
  s.setHead h { c with
    enabled := true
    state := if c.state = .disabled ∨ c.state = .faulted then .idle else c.state }

/-- HEAD DISABLE on one head (R53). -/
def disableHead (s : State) (h : Fin 24) : State :=
  let c := s.head h
  s.setHead h { c with enabled := false, state := if c.state = .idle then .disabled else c.state }

/-- HEAD STOP on one head (R54). -/
def stopHead (s : State) (h : Fin 24) : State :=
  let s := disableHead s h
  if (s.head h).state.isBound then abortHead h .headStopped s else s

/-- HEAD STOP over the named heads in order, counting those it unbinds (R51, R54). -/
def stopHeads : List (Fin 24) → State → Nat × State
  | [], s => (0, s)
  | h :: hs, s =>
    let n := if (s.head h).state.isBound then 1 else 0
    let rest := stopHeads hs (stopHead s h)
    (n + rest.1, rest.2)

/-- Warm reset of a head (R58, R78). -/
def HeadContext.warm (c : HeadContext) : HeadContext :=
  { state := if c.state = .faulted then .faulted else freeState c
    enabled := c.enabled }

end Sys2Proof.Machine
end

