-- ==== Sys2Proof/Machine/Verdict.lean ====
section
/-! DEFINITION. VU, the Verdict Unit: the band checks, the verdict and its effects (chapter 6). -/

namespace Sys2Proof.Machine

/-- What one band adds (R92): nothing when it is not enforced or passes, MISSING_VALUE when a field it needs is absent,
its own cause when the check fails. `passes` is absent when a needed field is. -/
def bandCause (enforced : Bool) (passes : Option Bool) (own : Cause) : Option Cause :=
  if enforced then
    match passes with
    | none => some .missingValue
    | some true => none
    | some false => some own
  else none

/-- A value within its limits, both ends included (R93). -/
def within (lo v hi : Int) : Bool := decide (lo ≤ v ∧ v ≤ hi)

/-- The GAS_MASS band (R88, R92): gross less tare, signed. -/
def gasMassPasses (r : Record) (lo hi : Word) : Option Bool :=
  r.gross.map (fun g => within lo.toNat ((g.toNat : Int) - r.tare.toNat) hi.toNat)

/-- The CRIMP_HEIGHT and CRIMP_DIAMETER bands (R92). -/
def measurePasses (v : Option Word) (lo hi : Word) : Option Bool :=
  v.map (fun v => within lo.toNat v.toNat hi.toNat)

/-- The charge time in ms (R75): ((CLOSE − OPEN) mod 2^32) div 100. -/
def chargeTime (opened closed : Clock) : Nat := elapsed opened closed / 100

/-- The CHARGE_TIME band (R75, R92). -/
def chargeTimePasses (r : Record) (lo hi : Word) : Option Bool :=
  match r.captureOpen, r.captureClose with
  | some o, some c => some (within lo.toNat (chargeTime o c) hi.toNat)
  | _, _ => none

/-- The OVERSHOOT band (R92): max(0, pulses − dose loaded). -/
def overshootPasses (r : Record) (limit : Word) : Option Bool :=
  r.doseLoaded.map (fun d => decide (r.pulses - d ≤ limit.toNat))

/-- Whether the band of a weight is enforced by MASK, a sum of weights (R91): its bit of the mask is set. -/
def enforced (mask : Word) (bit : Nat) : Bool := mask.getLsbD bit

/-- The cause set after the band checks (R90 step 1, R92), over the words of the record's recipe slot. -/
def bandCauses (s : State) (r : Record) : CauseSet :=
  let w := s.recipeWord r.recipe
  let mask := w 5
  addCauseIf (bandCause (enforced mask 0) (gasMassPasses r (w 6) (w 7)) .gasMass)
    (addCauseIf (bandCause (enforced mask 1) (measurePasses r.height (w 8) (w 9)) .crimpHeight)
      (addCauseIf (bandCause (enforced mask 2) (measurePasses r.diameter (w 10) (w 11)) .crimpDiameter)
        (addCauseIf (bandCause (enforced mask 3) (chargeTimePasses r (w 12) (w 13)) .chargeTime)
          (addCauseIf (bandCause (enforced mask 4) (overshootPasses r (w 14)) .overshoot) r.causes))))

/-- The verdict (R94). -/
def chooseVerdict (causes : CauseSet) (sample : Option SampleRequest) : Verdict :=
  if causes ≠ 0 then .reject else if sample.isSome then .sample else .pass

/-- The tally a verdict raises (R95, R103). -/
def Tally.count (t : Tally) (v : Verdict) : Tally :=
  match v with
  | .pass => { t with passed := t.passed + 1 }
  | .reject => { t with rejected := t.rejected + 1 }
  | .sample => { t with sampled := t.sampled + 1 }

/-- The verdict a LOADED record in a slot is given at J (R90, R94). -/
def State.verdictFor (s : State) (k : Fin 64) : Verdict :=
  chooseVerdict (bandCauses s (s.record k)) (s.record k).sample

/-- Giving the verdict (R95): the record FINAL with its causes and verdict, one tally up, the in-use count down with the
application at 0 (R96), and a REJECT's bound request re-armed. -/
def giveVerdict (k : Fin 64) (s : State) : State :=
  let r := s.record k
  let v := s.verdictFor k
  let s := s.setRecord k { r with
    state := .final
    causes := bandCauses s r
    verdict := some v
    sample := if v = .reject then none else r.sample }
  let s := onTally r.recipe (·.count v) s
  let s := lowerInUse r.recipe s
  if v = .reject then rearmIf r.sample s else s

/-- The forward arrival at J (R13, R17): a LOADED record is given its verdict; a FINAL one keeps its own. -/
def gateArrival (s : State) : State :=
  match s.slotAtStation s.stationJ with
  | some k => if (s.record k).state = .loaded then giveVerdict k s else s
  | none => s

/-- The gate slot of a FORWARD advance, from the record at J after its arrival was taken (R13, R17). -/
def State.gateSlot (s : State) : Option Verdict :=
  match s.slotAtStation s.stationJ with
  | some k => if (s.record k).state = .final then (s.record k).verdict else none
  | none => none

end Sys2Proof.Machine
end

