-- ==== Sys2Proof/Machine/Admission.lean ====
section
/-! DEFINITION. Admission at the infeed: the candidate, the feed decision, FEED and back-out (chapter 2). -/

namespace Sys2Proof.Machine

/-- A reported temperature is taken when its flag is set and it lies from −400 to +600 (R23). -/
def candidateTemperature (present : Bool) (t : Word) : Option Int :=
  if present && decide (-400 ≤ t.toInt ∧ t.toInt ≤ 600) then some t.toInt else none

/-- An INFEED report replaces the candidate register's content (R23). -/
def takeInfeed (codePresent : Bool) (product : Fin 16) (tare : Word) (temperaturePresent : Bool) (temperature : Word)
    (s : State) : State :=
  { s with lp.candidate := some ⟨if codePresent then some product else none, tare,
      candidateTemperature temperaturePresent temperature⟩ }

/-- A can's recipe slot (R107): the product code mod 8. -/
def recipeOf (product : Fin 16) : Fin 8 := Fin.ofNat 8 product.val

/-- The predicted head (R19): (φ + E) mod 24. -/
def State.predictedHead (s : State) (φ : Fin 24) : Fin 24 := Fin.ofNat 24 (φ.val + s.stationE)

/-- A head is usable when it is enabled and not FAULTED (R26, R38). -/
def State.usable (s : State) (h : Fin 24) : Bool := (s.head h).enabled && (s.head h).state != .faulted

/-- The admission decision (R26): the first condition that holds gives it. -/
def State.feedDecision (s : State) (φ : Fin 24) : FeedDecision :=
  match s.lp.candidate with
  | none => .hold none
  | some c =>
    match c.code with
    | none => .hold (some .uncodedCan)
    | some p =>
      if s.recipeWord (recipeOf p) 0 = 0 then .hold (some .slotEmpty)
      else if s.closing (recipeOf p) then .hold none
      else if s.usable (s.predictedHead φ) then .feed c p
      else .hold none

/-- The record a FEED makes (R28). -/
def fedRecord (s : State) (φ : Fin 24) (c : Candidate) (p : Fin 16) (sample : Option SampleRequest) : Record :=
  { state := .loaded
    serial := s.tu.nextSerial
    product := p
    recipe := recipeOf p
    predicted := s.predictedHead φ
    tare := c.tare
    temperature := c.temperature
    sample := sample }

/-- FEED (R28 to R30): the record at position 0, the next serial, the in-use count, the admitted tally, the oldest
matching sample request bound, and the candidate register emptied. -/
def feed (φ : Fin 24) (c : Candidate) (p : Fin 16) (s : State) : State :=
  let k := recipeOf p
  let found := bindSample k (s.predictedHead φ) s.vu.samples
  let s := s.setRecord (s.slotAt 0) (fedRecord s φ c p found.1)
  let s := { s with tu.nextSerial := s.tu.nextSerial + 1, vu.samples := found.2, lp.candidate := none }
  raiseInUse k (onTally k (fun t => { t with admitted := t.admitted + 1 }) s)

/-- The feed slot of a FORWARD advance and its effects (R25, R26): decided in RUN only. The flag is true for FEED. -/
def admission (φ : Fin 24) (s : State) : Bool × State :=
  if s.nc.mode = .run then
    match s.feedDecision φ with
    | .hold a => (false, raiseAlertIf a s)
    | .feed c p => (true, feed φ c p s)
  else (false, s)

/-- A REVERSE advance takes the record at position 0 (R14, R32): a LOADED one is backed out, its account closed and its
request re-armed (R33, R34); a FINAL one is freed. -/
def backOut (s : State) : State :=
  let k := s.slotAt 0
  let r := s.record k
  match r.state with
  | .empty => s
  | .final => s.setRecord k Record.cleared
  | .loaded =>
    let s := s.setRecord k Record.cleared
    let s := onTally r.recipe (fun t => { t with backedOut := t.backedOut + 1 }) s
    rearmIf r.sample (lowerInUse r.recipe s)

end Sys2Proof.Machine
end

