-- ==== Sys2Proof/Machine/Advance.lean ====
section
/-! DEFINITION. TU's advances: exit, the origin, the arrivals, the gate, the station tags and the end of a drain (chapter 1). -/

namespace Sys2Proof.Machine

/-- The record at position 63 leaves the track and its slot is EMPTY (R11 step 1). -/
def exitAtX (s : State) : State := s.setRecord (s.slotAt Config.exitPosition) Record.cleared

/-- The origin moves at a FORWARD advance (R4, R11 step 2). -/
def originForward (s : State) : State := { s with tu.origin := s.tu.origin - 1 }

/-- The origin moves at a REVERSE advance (R4, R14 step 2). -/
def originReverse (s : State) : State := { s with tu.origin := s.tu.origin + 1 }

/-- A station tag (R20): of a LOADED or FINAL record at the station, else "none". -/
def State.stationTag (s : State) (p : Nat) : Option Link :=
  match s.slotAtStation p with
  | some k => if (s.record k).state = .empty then none else some (s.tagOf k)
  | none => none

/-- A FORWARD advance (R11). -/
def forwardAdvance (φ : Fin 24) (s : State) : IndexSlots × State :=
  let fed := admission φ (originForward (exitAtX s))
  let s := gateArrival (forwardArrivals φ fed.2)
  (⟨fed.1, s.gateSlot, s.stationTag s.stationK, s.stationTag s.stationW⟩, s)

/-- A REVERSE advance (R14, R15). -/
def reverseAdvance (s : State) : IndexSlots × State :=
  let s := jogBackArrival (originReverse (backOut s))
  (⟨false, none, s.stationTag s.stationK, s.stationTag s.stationW⟩, s)

/-- A DWELL advance (R16). -/
def dwellAdvance (s : State) : IndexSlots × State :=
  (⟨false, none, s.stationTag s.stationK, s.stationTag s.stationW⟩, s)

/-- In DRAIN, an advance after which the ring is empty passes the node to STANDBY (R145). -/
def endDrain (s : State) : State :=
  if s.nc.mode = .drain ∧ s.nc.ringEmpty = true then enterStandby s else s

/-- The advance of an accepted INDEX frame, with TU's report to NC after it (R10, R21, R145). -/
def takeAdvance (a : Advance) (φ : Fin 24) (s : State) : IndexSlots × State :=
  let moved := match a with
    | .forward => forwardAdvance φ s
    | .reverse => reverseAdvance s
    | .dwell => dwellAdvance s
  (moved.1, endDrain (reportRing moved.2))

end Sys2Proof.Machine
end

