-- ==== Sys2Proof/Machine/Service.lean ====
section
/-! DEFINITION. NC's requests: each one's answer and effect on the part, and the order of checks of R154 (chapter 10, and the
rules that own the requests). -/

namespace Sys2Proof.Machine

/-- A request refused with a status: four result words of 0, nothing changed (R154). -/
def refuse (st : Status) (s : State) : Answer × State := ({ status := st }, s)

/-! ### SYNC, STATUS -/

/-- SYNC in WAIT_SYNC (R141): the wake count, and the wake on the third (R142). -/
def wakeSync (s : State) : Answer × State :=
  if s.nc.wakeCount = 2 then
    ({ status := .done, result0 := 3 }, enterStandby (restartGap { s with nc.wakeCount := 0 }))
  else
    ({ status := .syncing, result0 := BitVec.ofNat 16 (s.nc.wakeCount + 1) },
      { s with nc.wakeCount := s.nc.wakeCount + 1 })

/-- STATUS (R159). -/
def takeStatus (s : State) : Answer × State :=
  (⟨.done, s.statusResult0, s.statusResult1, s.alertWord, pointerWord s.nc.pointer s.nc.direction⟩, s)

/-! ### POINT, READ, WRITE -/

/-- Setting the pointer and direction and filling the latch (R156). -/
def setPointer (p : Pointer) (d : Direction) (s : State) : State :=
  fillLatch { s with nc.pointer := p, nc.direction := d }

/-- POINT (R156). -/
def takePoint (window index direction : Word) (s : State) : Answer × State :=
  match decodeWindow window with
  | none => refuse .badWindow s
  | some w =>
    if index.toNat < windowLength w then
      match decodeDirection direction with
      | none => refuse .badValue s
      | some d =>
        let s := setPointer ⟨w, index.toNat⟩ d s
        ({ status := .done, result0 := s.nc.latch }, s)
    else refuse .badIndex s

/-- The pointer moved on by one word (R157). -/
def State.nextPointer (s : State) : Pointer := s.nc.pointer.advance s.nc.direction

/-- READ (R157). -/
def takeRead (s : State) : Answer × State :=
  ({ status := .done
     result0 := s.nc.latch
     result1 := BitVec.ofNat 16 (flagBit s.nc.stale)
     result2 := pointerWord s.nextPointer s.nc.direction },
    setPointer s.nextPointer s.nc.direction s)

/-- A WRITE into the NODE window (R134, R63, R158). -/
def writeNode (i : Nat) (v : Word) (s : State) : Status × State :=
  if i = 4 then
    if gapLimitRange v.toNat then (.done, { s with lp.gapLimit := v }) else (.badValue, s)
  else if i = 5 then
    if trimRowsRange v.toNat then (.done, { s with hu.trimRows := v }) else (.badValue, s)
  else (.readOnly, s)

/-- A WRITE into the station table (R2). -/
def writeStations (i : Nat) (v : Word) (s : State) : Status × State :=
  if s.nc.mode = .standby then (.done, { s with tu.stations := s.tu.stations.set (Fin.ofNat 7 i) v })
  else (.refusedMode, s)

/-- A WRITE into the Trim Table (R62). -/
def writeTrim (i : Nat) (v : Word) (s : State) : Status × State :=
  let k : Fin 16 := Fin.ofNat 16 (i / 2)
  let row := s.hu.trim[k]
  if i % 2 = 0 then (.done, { s with hu.trim := s.hu.trim.set k { row with bound := v } })
  else if factorRange v.toNat then (.done, { s with hu.trim := s.hu.trim.set k { row with factor := v } })
  else (.badValue, s)

/-- A WRITE into a recipe slot (R110): the range, the direct write, the full list, the parking. -/
def writeRecipe (i : Nat) (v : Word) (s : State) : Status × State :=
  let (k, w) := recipeWordIndex i
  if recipeRange w v.toNat = false then (.badValue, s)
  else if s.rs.scope = none ∧ s.inUse k = 0 ∧ s.closing k = false then
    (.done, { s with rs.words := storeEntry s.rs.words ⟨k, w, v⟩ })
  else if Config.parkCapacity ≤ s.rs.parkList.length then (.parkFull, raiseAlert .parkFull s)
  else (.parked, { s with rs.parkList := s.rs.parkList ++ [⟨k, w, v⟩] })

/-- The word at the pointer takes a value, by its window (R155, R158). -/
def writeWord (p : Pointer) (v : Word) (s : State) : Status × State :=
  match p.window with
  | 0 => writeNode p.index v s
  | 1 => writeStations p.index v s
  | 2 => writeTrim p.index v s
  | 3 => writeRecipe p.index v s
  | 4 => (.readOnly, s)
  | 5 => (.readOnly, s)
  | 6 => (.readOnly, s)
  | 7 => (.readOnly, s)
  | 8 => (.readOnly, s)
  | 9 => (.readOnly, s)

/-- WRITE (R158): on DONE or PARKED the pointer advances and the stale flag is set. -/
def takeWrite (v : Word) (s : State) : Answer × State :=
  let out := writeWord s.nc.pointer v s
  let s :=
    if out.1 = .done ∨ out.1 = .parked then { out.2 with nc.pointer := s.nextPointer, nc.stale := true } else out.2
  ({ status := out.1, result0 := pointerWord s.nc.pointer s.nc.direction }, s)

/-! ### MODE, CLEAR TRIP -/

/-- The answer to a MODE request (R143): result word 0 is the mode after the request. -/
def modeAnswer (st : Status) (s : State) : Answer × State :=
  ({ status := st, result0 := BitVec.ofNat 16 s.nc.mode.code }, s)

/-- MODE RUN (R143, R3). -/
def takeModeRun (s : State) : Answer × State :=
  match s.nc.mode with
  | .standby => if s.stationsValid then modeAnswer .done { s with nc.mode := .run } else modeAnswer .badStations s
  | .run => modeAnswer .done s
  | .drain => modeAnswer .done { s with nc.mode := .run }
  | .trip => modeAnswer .refusedMode s
  | .waitSync => modeAnswer .refusedMode s

/-- MODE DRAIN (R143). -/
def takeModeDrain (s : State) : Answer × State :=
  if s.nc.mode = .run then modeAnswer .done { s with nc.mode := .drain } else modeAnswer .refusedMode s

/-- MODE STANDBY (R143). -/
def takeModeStandby (s : State) : Answer × State :=
  match s.nc.mode with
  | .run => if s.nc.ringEmpty then modeAnswer .done (enterStandby s) else modeAnswer .notEmpty s
  | .drain => if s.nc.ringEmpty then modeAnswer .done (enterStandby s) else modeAnswer .notEmpty s
  | .standby => modeAnswer .done s
  | .trip => modeAnswer .refusedMode s
  | .waitSync => modeAnswer .refusedMode s

/-- A MODE request (R143): an operand naming none of the three is BAD_VALUE. -/
def takeMode (asked : Option ModeAsked) (s : State) : Answer × State :=
  match asked with
  | none => modeAnswer .badValue s
  | some .run => takeModeRun s
  | some .drain => takeModeDrain s
  | some .standby => takeModeStandby s

/-- CLEAR TRIP (R150). -/
def takeClearTrip (s : State) : Answer × State :=
  if s.nc.mode = .trip then
    if s.nc.ringEmpty then ({ status := .done }, enterStandby { s with nc.tripCause := none }) else refuse .notEmpty s
  else refuse .refusedMode s

/-! ### HEAD requests -/

/-- The answer to a HEAD request that names heads (R51): their number and the number unbound. -/
def headAnswer (named unbound : Nat) : Answer :=
  { status := .done, result0 := BitVec.ofNat 16 named, result1 := BitVec.ofNat 16 unbound }

/-- HEAD ENABLE (R51, R52). -/
def takeHeadEnable (selector value1 value2 : Word) (s : State) : Answer × State :=
  match selectHeads selector value1 value2 with
  | none => refuse .badValue s
  | some hs => (headAnswer hs.length 0, hs.foldl enableHead s)

/-- HEAD DISABLE (R51, R53). -/
def takeHeadDisable (selector value1 value2 : Word) (s : State) : Answer × State :=
  match selectHeads selector value1 value2 with
  | none => refuse .badValue s
  | some hs => (headAnswer hs.length 0, hs.foldl disableHead s)

/-- HEAD STOP (R51, R54). -/
def takeHeadStop (selector value1 value2 : Word) (s : State) : Answer × State :=
  match selectHeads selector value1 value2 with
  | none => refuse .badValue s
  | some hs => (headAnswer hs.length (stopHeads hs s).1, (stopHeads hs s).2)

/-! ### SAMPLE, TALLY CLEAR -/

/-- SAMPLE (R99). -/
def takeSample (kind argument tag : Word) (s : State) : Answer × State :=
  match decodeSample kind argument tag with
  | none => refuse .badValue s
  | some q =>
    if s.vu.samples.length < Config.sampleCapacity then
      ({ status := .done, result0 := BitVec.ofNat 16 (s.vu.samples.length + 1) },
        { s with vu.samples := s.vu.samples ++ [q] })
    else refuse .listFull s

/-- TALLY CLEAR (R104): admitted becomes in-use and the other four 0, for every slot. -/
def takeTallyClear (s : State) : Answer × State :=
  ({ status := .done },
    { s with vu.tallies := Vector.ofFn (fun k : Fin 8 => { admitted := BitVec.ofNat 32 (s.inUse k) }) })

/-! ### Scopes and UNPARK -/

/-- SCOPE OPEN (R117). -/
def takeScopeOpen (s : State) : Answer × State :=
  if s.nc.mode = .trip then refuse .refusedMode s
  else if s.rs.scope.isSome then refuse .scopeOpen s
  else
    ({ status := .done, result0 := BitVec.ofNat 16 s.rs.parkList.length },
      { s with rs.scope := some s.rs.parkList.length })

/-- SCOPE CLOSE (R118). -/
def takeScopeClose (s : State) : Answer × State :=
  if s.rs.scope.isSome then ({ status := .done }, applyParked (fun _ => true) { s with rs.scope := none })
  else refuse .noScope s

/-- SCOPE ABANDON (R119). -/
def takeScopeAbandon (s : State) : Answer × State :=
  match s.rs.scope with
  | some m => ({ status := .done }, { s with rs.parkList := s.rs.parkList.take m, rs.scope := none })
  | none => refuse .noScope s

/-- UNPARK (R120). -/
def takeUnpark (s : State) : Answer × State :=
  match s.rs.parkList.getLast? with
  | none => refuse .parkEmpty s
  | some e =>
    if s.rs.scope = some s.rs.parkList.length then refuse .underMark s
    else
      (⟨.done, BitVec.ofNat 16 e.slot.val, BitVec.ofNat 16 e.word.val, e.value,
          BitVec.ofNat 16 (s.rs.parkList.length - 1)⟩,
        { s with rs.parkList := s.rs.parkList.dropLast })

/-! ### CLEAR ALERTS, CLEAR WINDOW, RESET NODE -/

/-- CLEAR ALERTS (R162). -/
def takeClearAlerts (kinds : Word) (s : State) : Answer × State :=
  if kinds.getLsbD 15 then refuse .badValue s
  else
    let s := { s with nc.alerts := s.nc.alerts &&& ~~~(kinds.setWidth 15) }
    ({ status := .done, result0 := s.alertWord }, s)

/-- The window a CLEAR WINDOW can clear, if it can (R155, R160). -/
def clearTarget (w : Fin 10) : Option ClearTarget :=
  match w with
  | 0 => none | 1 => none | 2 => some .trim | 3 => some .recipe | 4 => none
  | 5 => none | 6 => none | 7 => none | 8 => none | 9 => some .sample

/-- CLEAR WINDOW (R160). -/
def takeClearWindow (window : Word) (s : State) : Answer × State :=
  match decodeWindow window with
  | none => refuse .badWindow s
  | some w =>
    match clearTarget w with
    | none => refuse .readOnly s
    | some t =>
      if t = .recipe ∧ s.nc.mode ≠ .standby then refuse .refusedMode s
      else ({ status := .accepted, result0 := window }, { s with nc.busy := .clearWindow t s.clock })

/-- RESET NODE (R151). -/
def takeResetNode (s : State) : Answer × State :=
  if s.nc.mode = .standby ∨ s.nc.mode = .trip then
    ({ status := .accepted }, { s with nc.busy := .resetNode s.clock })
  else refuse .refusedMode s

/-! ### Taking a request -/

/-- The request taken by the rule that owns it (R154, order 3 and 4). -/
def takeOwned (q : Request) (s : State) : Answer × State :=
  match q with
  | .sync => ({ status := .done }, s)
  | .status => takeStatus s
  | .point w i d => takePoint w i d s
  | .read => takeRead s
  | .write v => takeWrite v s
  | .mode a => takeMode a s
  | .headEnable k a b => takeHeadEnable k a b s
  | .headDisable k a b => takeHeadDisable k a b s
  | .headStop k a b => takeHeadStop k a b s
  | .sample k a t => takeSample k a t s
  | .scopeOpen => takeScopeOpen s
  | .scopeClose => takeScopeClose s
  | .scopeAbandon => takeScopeAbandon s
  | .unpark => takeUnpark s
  | .clearAlerts k => takeClearAlerts k s
  | .clearTrip => takeClearTrip s
  | .clearWindow w => takeClearWindow w s
  | .tallyClear => takeTallyClear s
  | .resetNode => takeResetNode s
  | .unknown => refuse .badRequest s

/-- NC takes a request in the order of R154: NOT_AWAKE by the wake rule (R141), BUSY, then the rule that owns it. -/
def takeRequest (q : Request) (s : State) : Answer × State :=
  if s.nc.mode = .waitSync then
    if q = .sync then wakeSync s else refuse .notAwake { s with nc.wakeCount := 0 }
  else if s.nc.busy.running = true ∧ q ≠ .status then refuse .busy s
  else takeOwned q s

/-- The words of a REPLY before its node status slot (R126, R164). -/
def replyLead (address : BitVec 6) (f : ServiceFrame) (a : Answer) : List Word :=
  [5, address.setWidth 16, f.code, f.tag.setWidth 16, a.status.code, a.result0, a.result1, a.result2, a.result3]

/-- An accepted SERVICE frame addressed to the node (R126): its request is taken and a REPLY takes its place in the ring order. -/
def serviceArrival (f : ServiceFrame) (s : State) : State :=
  let out := takeRequest f.request s
  putTransit (.reply (replyLead s.lp.nodeAddress f out.1)) out.2

end Sys2Proof.Machine
end

