-- ==== Sys2Proof/Machine/Link.lean ====
section
/-! DEFINITION. LP: the arrival of a frame, the turret check, the vent flag, reports, departures, and the meanings of the frame
commands (chapter 8). -/

namespace Sys2Proof.Machine

/-! ### The turret check and the vent flag -/

/-- The count expected of a frame's own advance (R133). -/
def expectedCount (a : Advance) (last : Word) : Word :=
  match a with
  | .forward => last + 1
  | .dwell => last
  | .reverse => last - 1

/-- The phase expected of a frame's own advance (R133). -/
def expectedPhase (a : Advance) (last : Fin 24) : Fin 24 :=
  match a with
  | .forward => last + 1
  | .dwell => last
  | .reverse => last - 1

/-- The frame matches (R133). -/
def State.turretMatches (s : State) (f : IndexFrame) : Bool :=
  f.count == expectedCount f.advance s.lp.lastCount && f.phase == expectedPhase f.advance s.lp.lastPhase

/-- Adopting the frame's count and phase (R133). -/
def adopt (f : IndexFrame) (s : State) : State :=
  { s with lp.lastCount := f.count, lp.lastPhase := f.phase, lp.unchecked := false }

/-- The turret check (R133): in RUN, DRAIN and TRIP, when not unchecked, a mismatch asks for TRACK_LOST; every frame is adopted. -/
def turretCheck (f : IndexFrame) (s : State) : State :=
  adopt f (if s.lp.unchecked = false ∧ s.turretMatches f = false then requestTrip .trackLost s else s)

/-- The vent flag (R135). -/
def takeVent (vent : Bool) (s : State) : State := if vent then requestTrip .vent s else s

/-! ### Reports -/

/-- Storing a good measurement (R84). -/
def Record.measure (r : Record) (k : MeasureKind) (v : Word) : Record :=
  match k with
  | .height => { r with height := some v }
  | .diameter => { r with diameter := some v }
  | .gross => { r with gross := some v }

/-- A MEASURE report delivered to the record in its slot (R83, R84). -/
def deliverMeasure (k : MeasureKind) (ok : Bool) (slot : Fin 64) (serial v : Word) (s : State) : State :=
  let r := s.record slot
  if r.serial = serial ∧ r.state = .loaded then (if ok then s.setRecord slot (r.measure k v) else s)
  else if r.serial = serial ∧ r.state = .final then raiseAlert .lateReport s
  else raiseAlert .staleReport s

/-- A MEASURE report (R82): a bad kind, a tag of none or a slot above 63 is stale. -/
def takeMeasure (k : Option MeasureKind) (ok : Bool) (slot serial v : Word) (s : State) : State :=
  match k, decodeSlot slot.toNat with
  | some k, some p => deliverMeasure k ok p serial v s
  | _, _ => raiseAlert .staleReport s

/-- One report goes to its owner (R132). -/
def takeReport (s : State) (r : Report) : State :=
  match r with
  | .infeed c p tare tp t => takeInfeed c p tare tp t s
  | .event h k lag => takeEvent h k lag s
  | .flow h n => takeFlow h n s
  | .measure k ok slot serial v => takeMeasure k ok slot serial v s

/-! ### Taking a frame -/

/-- The words of an INDEX frame before its command area as it leaves (R11, R164): words 0 to 3 as they came, the feed and
gate slots, tags K and W. -/
def indexLead (ws : List Word) (x : IndexSlots) : List Word :=
  ws.take 4 ++ [BitVec.ofNat 16 (flagBit x.feed + 16 * verdictCode x.gate)] ++ tagWords x.tagK ++ tagWords x.tagW

/-- An accepted INDEX frame is taken in phases (R131): turret check, vent flag, advance. -/
def takeIndex (f : IndexFrame) (ws : List Word) (s : State) : State :=
  let out := takeAdvance f.advance f.phase (takeVent f.vent (turretCheck f s))
  putTransit (.accepted (indexLead ws out.1)) out.2

/-- An accepted REPORT frame (R131, R132): vent flag, then the reports in list order. Its words before the command area
leave as they came. -/
def takeReportFrame (f : ReportFrame) (ws : List Word) (s : State) : State :=
  putTransit (.accepted (ws.take (4 * f.reports.length + 3))) (f.reports.foldl takeReport (takeVent f.vent s))

/-- An accepted CARRIER frame (R131). -/
def takeCarrier (vent : Bool) (ws : List Word) (s : State) : State :=
  putTransit (.accepted (ws.take 2)) (takeVent vent s)

/-- A damaged frame out of bypass (R129, R130). -/
def takeDamaged (ws : List Word) (s : State) : State :=
  putTransit (.unchanged ws) (frameLoss (raiseAlert .frameDamaged s))

/-- A SERVICE frame is addressed to the node (R126). -/
def State.addressed (s : State) (f : ServiceFrame) : Bool := f.destination == s.lp.nodeAddress.setWidth 16

/-- A frame that arrives out of bypass, by its class (R125 to R131): it restarts the frame gap timer first (R134). -/
def awakeArrival (ws : List Word) (s : State) : State :=
  let s := restartGap s
  match classify ws with
  | .damaged => takeDamaged ws s
  | .unknown => putTransit (.unchanged ws) s
  | .index f => takeIndex f ws s
  | .report f => takeReportFrame f ws s
  | .carrier vent => takeCarrier vent ws s
  | .service f => if s.addressed f then serviceArrival f s else putTransit (.unchanged ws) s
  | .reply => putTransit (.unchanged ws) s

/-- A frame that arrives in WAIT_SYNC (R127): only an accepted SERVICE frame addressed to the node is taken. -/
def waitArrival (ws : List Word) (s : State) : State :=
  match classify ws with
  | .service f => if s.addressed f then serviceArrival f s else passBypass ws s
  | .damaged => passBypass ws s
  | .unknown => passBypass ws s
  | .index _ => passBypass ws s
  | .report _ => passBypass ws s
  | .carrier _ => passBypass ws s
  | .reply => passBypass ws s

/-- A frame with these words arrives at the link input (R125, R127). -/
def frameArrival (ws : List Word) (s : State) : State :=
  if s.linkHeld then passBypass ws s
  else if s.nc.mode = .waitSync then waitArrival ws s
  else awakeArrival ws s

/-! ### Departure -/

/-- The command area: eight places of two words, the places not filled written empty (R137, R165): kind 0,
and 0 in the head bits and the argument word, which the manual leaves open (DESIGN CHOICE, log entry 19). -/
def commandArea (cs : List HeadCommand) : List Word :=
  let filled := cs.flatMap HeadCommand.entry
  filled ++ List.replicate (2 * Config.commandPlaces - filled.length) 0

/-- The oldest commands leave, up to eight, in queue order, each with its effect in the part (R137). -/
def departCommands (s : State) : State :=
  let cs := s.lp.queue.take Config.commandPlaces
  cs.foldl commandDeparts { s with lp.queue := s.lp.queue.drop Config.commandPlaces }

/-- A frame leaves at the link output (R125, R129, R137, R138): an accepted one with its command area, a REPLY without one,
both with the node status slot and a fresh check word; an unchanged one as it came. -/
def departFrame (t : TransitFrame) (s : State) : State :=
  match t with
  | .unchanged ws => sendOut ws s
  | .reply lead => sendOut (withCheck (lead ++ [s.statusSlot])) s
  | .accepted lead =>
    let area := commandArea (s.lp.queue.take Config.commandPlaces)
    let s := departCommands s
    sendOut (withCheck (lead ++ area ++ [s.statusSlot])) s

/-- The oldest frame in transit leaves; with none in transit nothing does (R125, log entry 3). -/
def departOldest (s : State) : State :=
  match s.lp.transit with
  | [] => s
  | t :: rest => departFrame t { s with lp.transit := rest }

/-! ### The meanings of the frame commands -/

/-- INDEX_FRAME (R131). The words decide the class (log entry 1), as in every frame command. -/
def execIndexFrame (ws : List Word) (s : State) : Host.Outcome State Fault Refusal := .next (frameArrival ws s)

/-- REPORT_FRAME (R132). -/
def execReportFrame (ws : List Word) (s : State) : Host.Outcome State Fault Refusal := .next (frameArrival ws s)

/-- CARRIER_FRAME (R131). -/
def execCarrierFrame (ws : List Word) (s : State) : Host.Outcome State Fault Refusal := .next (frameArrival ws s)

/-- SERVICE_FRAME (R126). -/
def execServiceFrame (ws : List Word) (s : State) : Host.Outcome State Fault Refusal := .next (frameArrival ws s)

/-- FOREIGN_FRAME (R126). -/
def execForeignFrame (ws : List Word) (s : State) : Host.Outcome State Fault Refusal := .next (frameArrival ws s)

/-- UNKNOWN_FRAME (R125). -/
def execUnknownFrame (ws : List Word) (s : State) : Host.Outcome State Fault Refusal := .next (frameArrival ws s)

/-- DAMAGED_FRAME (R129). -/
def execDamagedFrame (ws : List Word) (s : State) : Host.Outcome State Fault Refusal := .next (frameArrival ws s)

/-- BYPASS_FRAME (R127). -/
def execBypassFrame (ws : List Word) (s : State) : Host.Outcome State Fault Refusal := .next (frameArrival ws s)

/-- FRAME_DEPARTURE (R137). -/
def execFrameDeparture (s : State) : Host.Outcome State Fault Refusal := .next (departOldest s)

end Sys2Proof.Machine
end

