-- ==== Sys2Proof/Machine/Events.lean ====
section
/-! DEFINITION. The events of the part itself and of its pins: cold reset, ticks, expiries and completions of busy operations
(chapters 4, 8, 9, 10 and 11). A timer event placed before its condition stands changes nothing (log entry 8). -/

namespace Sys2Proof.Machine

/-- The part at its cold values with the pin asserted (R140); what has left and what waits stay (log entry 5). -/
def coldReset (s : State) : State := { State.reset with linkOut := s.linkOut, pending := s.pending }

/-- COLD_RESET (R140). -/
def execColdReset (s : State) : Host.Outcome State Fault Refusal := .next (coldReset s)

/-- The release of the pin (R169, R60): the straps are read and the line clock starts from 0; the mode is WAIT_SYNC. A release
while the pin is not asserted is none (log entry 7). -/
def releasePin (straps : BitVec 6) (s : State) : State :=
  if s.coldResetPin then { s with coldResetPin := false, lp.nodeAddress := straps, nc.mode := .waitSync, clock := 0 } else s

/-- COLD_RESET_RELEASE (R169). -/
def execColdResetRelease (straps : BitVec 6) (s : State) : Host.Outcome State Fault Refusal := .next (releasePin straps s)

/-- One tick (R60): the clock holds 0 while the pin is asserted, and else advances by one, mod 2^32. -/
def tick (s : State) : State := if s.coldResetPin then s else { s with clock := s.clock + 1 }

/-- LINE_CLOCK_TICK (R60). -/
def execLineClockTick (s : State) : Host.Outcome State Fault Refusal := .next (tick s)

/-- The frame gap timer's limit is reached (R134). -/
def State.gapDue (s : State) : Bool :=
  match s.lp.gapTimer with
  | .running since => s.reached since (s.lp.gapLimit.toNat * Config.ticksPerMs)
  | .stopped => false
  | .expired => false

/-- The expiry of the frame gap timer (R134): EXPIRED, and LINK_GAP by the mode (R146). -/
def gapExpiry (s : State) : State :=
  if s.gapDue then requestTrip .linkGap { s with lp.gapTimer := .expired } else s

/-- FRAME_GAP_EXPIRY (R134). -/
def execFrameGapExpiry (s : State) : Host.Outcome State Fault Refusal := .next (gapExpiry s)

/-- The expiry of the next due charge-limit timer (R68). -/
def nextChargeExpiry (s : State) : State :=
  match s.nextDue with
  | some h => chargeExpiry h s
  | none => s

/-- CHARGE_LIMIT_EXPIRY (R68). -/
def execChargeLimitExpiry (s : State) : Host.Outcome State Fault Refusal := .next (nextChargeExpiry s)

/-- The content a CLEAR WINDOW leaves (R161). -/
def clearContent (t : ClearTarget) (s : State) : State :=
  match t with
  | .trim => { s with hu.trim := Vector.replicate 16 {} }
  | .recipe => { s with rs.words := Vector.replicate 128 0 }
  | .sample => { s with vu.samples := [] }

/-- The completion of CLEAR WINDOW, at 1000 ticks (R160, R161). -/
def completeClear (s : State) : State :=
  match s.nc.busy with
  | .clearWindow t since =>
    if s.reached since Config.clearWindowTicks then clearContent t { s with nc.busy := .idle } else s
  | .resetNode _ => s
  | .idle => s

/-- CLEAR_WINDOW_COMPLETION (R161). -/
def execClearWindowCompletion (s : State) : Host.Outcome State Fault Refusal := .next (completeClear s)

/-- The warm reset (R152): what each block sets and keeps. -/
def warmReset (s : State) : State :=
  fillLatch { s with
    tu.ring := Vector.replicate 64 Record.cleared
    tu.origin := 0
    hu.heads := s.hu.heads.map HeadContext.warm
    lp.queue := []
    lp.candidate := none
    lp.unchecked := true
    vu := {}
    rs.inUse := Vector.replicate 8 0
    rs.parkList := []
    rs.scope := none
    nc := { clockHold := s.nc.clockHold, mode := .standby } }

/-- The completion of RESET NODE, at 2000 ticks (R151, R152). -/
def completeReset (s : State) : State :=
  match s.nc.busy with
  | .resetNode since => if s.reached since Config.resetNodeTicks then warmReset s else s
  | .clearWindow _ _ => s
  | .idle => s

/-- WARM_RESET_COMPLETION (R152). -/
def execWarmResetCompletion (s : State) : Host.Outcome State Fault Refusal := .next (completeReset s)

end Sys2Proof.Machine
end

