-- ==== Sys2Proof/Machine/Requests.lean ====
section
/-! DEFINITION. The meanings of the request commands: each is the arrival of the SERVICE frame, addressed to the node, that
carries the request with its code and operand words of R166 (log entry 2). -/

namespace Sys2Proof.Machine

/-- The SERVICE frame addressed to the node with these request words (R164). -/
def State.requestFrame (s : State) (code : Word) (tag : BitVec 8) (o0 o1 o2 : Word) : ServiceFrame :=
  ⟨s.lp.nodeAddress.setWidth 16, code, tag, o0, o1, o2⟩

/-- The arrival of that frame. -/
def requestArrival (code : Word) (tag : BitVec 8) (o0 o1 o2 : Word) (s : State) : State :=
  frameArrival (serviceWords (s.requestFrame code tag o0 o1 o2)) s

/-- SYNC (R141). -/
def execSync (tag : BitVec 8) (s : State) : Host.Outcome State Fault Refusal := .next (requestArrival 1 tag 0 0 0 s)

/-- STATUS (R159). -/
def execStatus (tag : BitVec 8) (s : State) : Host.Outcome State Fault Refusal := .next (requestArrival 2 tag 0 0 0 s)

/-- POINT (R156). -/
def execPoint (tag : BitVec 8) (window index direction : Word) (s : State) : Host.Outcome State Fault Refusal :=
  .next (requestArrival 3 tag window index direction s)

/-- READ (R157). -/
def execRead (tag : BitVec 8) (s : State) : Host.Outcome State Fault Refusal := .next (requestArrival 4 tag 0 0 0 s)

/-- WRITE (R158). -/
def execWrite (tag : BitVec 8) (value : Word) (s : State) : Host.Outcome State Fault Refusal :=
  .next (requestArrival 5 tag value 0 0 s)

/-- MODE RUN (R143). -/
def execModeRun (tag : BitVec 8) (s : State) : Host.Outcome State Fault Refusal := .next (requestArrival 6 tag 1 0 0 s)

/-- MODE DRAIN (R143). -/
def execModeDrain (tag : BitVec 8) (s : State) : Host.Outcome State Fault Refusal := .next (requestArrival 6 tag 2 0 0 s)

/-- MODE STANDBY (R143). -/
def execModeStandby (tag : BitVec 8) (s : State) : Host.Outcome State Fault Refusal := .next (requestArrival 6 tag 0 0 0 s)

/-- HEAD ENABLE (R52). -/
def execHeadEnable (tag : BitVec 8) (selector value1 value2 : Word) (s : State) : Host.Outcome State Fault Refusal :=
  .next (requestArrival 7 tag selector value1 value2 s)

/-- HEAD DISABLE (R53). -/
def execHeadDisable (tag : BitVec 8) (selector value1 value2 : Word) (s : State) : Host.Outcome State Fault Refusal :=
  .next (requestArrival 8 tag selector value1 value2 s)

/-- HEAD STOP (R54). -/
def execHeadStop (tag : BitVec 8) (selector value1 value2 : Word) (s : State) : Host.Outcome State Fault Refusal :=
  .next (requestArrival 9 tag selector value1 value2 s)

/-- SAMPLE (R99). -/
def execSample (tag : BitVec 8) (kind argument sampleTag : Word) (s : State) : Host.Outcome State Fault Refusal :=
  .next (requestArrival 10 tag kind argument sampleTag s)

/-- SCOPE OPEN (R117). -/
def execScopeOpen (tag : BitVec 8) (s : State) : Host.Outcome State Fault Refusal := .next (requestArrival 11 tag 0 0 0 s)

/-- SCOPE CLOSE (R118). -/
def execScopeClose (tag : BitVec 8) (s : State) : Host.Outcome State Fault Refusal := .next (requestArrival 12 tag 0 0 0 s)

/-- SCOPE ABANDON (R119). -/
def execScopeAbandon (tag : BitVec 8) (s : State) : Host.Outcome State Fault Refusal := .next (requestArrival 13 tag 0 0 0 s)

/-- UNPARK (R120). -/
def execUnpark (tag : BitVec 8) (s : State) : Host.Outcome State Fault Refusal := .next (requestArrival 14 tag 0 0 0 s)

/-- CLEAR ALERTS (R162). -/
def execClearAlerts (tag : BitVec 8) (kinds : Word) (s : State) : Host.Outcome State Fault Refusal :=
  .next (requestArrival 15 tag kinds 0 0 s)

/-- CLEAR TRIP (R150). -/
def execClearTrip (tag : BitVec 8) (s : State) : Host.Outcome State Fault Refusal := .next (requestArrival 16 tag 0 0 0 s)

/-- CLEAR WINDOW (R160). -/
def execClearWindow (tag : BitVec 8) (window : Word) (s : State) : Host.Outcome State Fault Refusal :=
  .next (requestArrival 17 tag window 0 0 s)

/-- TALLY CLEAR (R104). -/
def execTallyClear (tag : BitVec 8) (s : State) : Host.Outcome State Fault Refusal := .next (requestArrival 18 tag 0 0 0 s)

/-- RESET NODE (R151). -/
def execResetNode (tag : BitVec 8) (s : State) : Host.Outcome State Fault Refusal := .next (requestArrival 19 tag 0 0 0 s)

end Sys2Proof.Machine
end

