-- ==== Sys2Proof/Machine/Dispatch.lean ====
section
/-! DEFINITION. The dispatch of a command to its meaning: one arm per constructor of Instr. -/

namespace Sys2Proof.Machine

/-- The meaning of a command: its effect on everything but the queue. -/
def exec (i : Instr) (s : State) : Host.Outcome State Fault Refusal :=
  match i with
  | .coldReset => Sys2Proof.Machine.execColdReset s
  | .coldResetRelease straps => Sys2Proof.Machine.execColdResetRelease straps s
  | .indexFrame ws => Sys2Proof.Machine.execIndexFrame ws s
  | .reportFrame ws => Sys2Proof.Machine.execReportFrame ws s
  | .carrierFrame ws => Sys2Proof.Machine.execCarrierFrame ws s
  | .serviceFrame ws => Sys2Proof.Machine.execServiceFrame ws s
  | .foreignFrame ws => Sys2Proof.Machine.execForeignFrame ws s
  | .unknownFrame ws => Sys2Proof.Machine.execUnknownFrame ws s
  | .damagedFrame ws => Sys2Proof.Machine.execDamagedFrame ws s
  | .bypassFrame ws => Sys2Proof.Machine.execBypassFrame ws s
  | .frameDeparture => Sys2Proof.Machine.execFrameDeparture s
  | .frameGapExpiry => Sys2Proof.Machine.execFrameGapExpiry s
  | .chargeLimitExpiry => Sys2Proof.Machine.execChargeLimitExpiry s
  | .sync tag => Sys2Proof.Machine.execSync tag s
  | .status tag => Sys2Proof.Machine.execStatus tag s
  | .point tag w index d => Sys2Proof.Machine.execPoint tag w index d s
  | .read tag => Sys2Proof.Machine.execRead tag s
  | .write tag v => Sys2Proof.Machine.execWrite tag v s
  | .modeRun tag => Sys2Proof.Machine.execModeRun tag s
  | .modeDrain tag => Sys2Proof.Machine.execModeDrain tag s
  | .modeStandby tag => Sys2Proof.Machine.execModeStandby tag s
  | .headEnable tag k a b => Sys2Proof.Machine.execHeadEnable tag k a b s
  | .headDisable tag k a b => Sys2Proof.Machine.execHeadDisable tag k a b s
  | .headStop tag k a b => Sys2Proof.Machine.execHeadStop tag k a b s
  | .sample tag k a t => Sys2Proof.Machine.execSample tag k a t s
  | .scopeOpen tag => Sys2Proof.Machine.execScopeOpen tag s
  | .scopeClose tag => Sys2Proof.Machine.execScopeClose tag s
  | .scopeAbandon tag => Sys2Proof.Machine.execScopeAbandon tag s
  | .unpark tag => Sys2Proof.Machine.execUnpark tag s
  | .clearAlerts tag k => Sys2Proof.Machine.execClearAlerts tag k s
  | .clearTrip tag => Sys2Proof.Machine.execClearTrip tag s
  | .clearWindow tag w => Sys2Proof.Machine.execClearWindow tag w s
  | .tallyClear tag => Sys2Proof.Machine.execTallyClear tag s
  | .resetNode tag => Sys2Proof.Machine.execResetNode tag s
  | .clearWindowCompletion => Sys2Proof.Machine.execClearWindowCompletion s
  | .warmResetCompletion => Sys2Proof.Machine.execWarmResetCompletion s
  | .lineClockTick => Sys2Proof.Machine.execLineClockTick s

end Sys2Proof.Machine
end

