-- ==== Sys2Proof/Machine/Step.lean ====
section
/-! DEFINITION. One step: the command at the front of the queue is taken and executed. -/

namespace Sys2Proof.Machine

/-- Take the command at the front of the queue and execute it on the state with the queue's rest; on an empty queue the
block idles (log entry 10). -/
def step (s : State) : Host.Outcome State Fault Refusal :=
  match s.pending with
  | [] => .next s
  | c :: rest => exec c { s with pending := rest }

/-- The state with the command a word spells put at the front of its queue; unchanged where the word spells none, which is
every word, as the table gives no row any bits. -/
def State.withFetchWord (s : State) (nbits w : Nat) : State :=
  match decodeTableWord nbits w with
  | some c => { s with pending := c :: s.pending }
  | none => s

end Sys2Proof.Machine
end

