-- ==== Sys2Proof/Safety.lean ====
section
/-! DEFINITION. The terms the claims use: when the part takes frames and requests, what a request leaves in LP, and the
invariants of the part, each from the rules it names. -/

namespace Sys2Proof.Machine

/-! ### Taking frames and requests -/

/-- Out of bypass, and no busy operation runs: a request is taken by the rule that owns it (R154). -/
def State.ready (s : State) : Prop := s.bypassed = false ∧ s.nc.busy = .idle

/-- The REPLY in transit that a request's answer forms (R126, R164); its node status slot is written at its departure. -/
def State.replyFrame (s : State) (code : Word) (tag : BitVec 8) (a : Answer) : TransitFrame :=
  .reply [5, s.lp.nodeAddress.setWidth 16, code, tag.setWidth 16, a.status.code,
    a.result0, a.result1, a.result2, a.result3]

/-- LP after a request taken out of bypass: the frame gap timer restarted, and the REPLY in transit; the rest as it was. -/
def State.replied (s : State) (code : Word) (tag : BitVec 8) (a : Answer) : LinkPort :=
  { s.lp with gapTimer := .running s.clock, transit := s.lp.transit ++ [s.replyFrame code tag a] }

/-- The state after a request that only answers. -/
def State.answered (s : State) (code : Word) (tag : BitVec 8) (a : Answer) : State := { s with lp := s.replied code tag a }

/-- LP after an accepted frame was taken out of bypass: the frame gap timer restarted, and the frame in transit. -/
def State.accepted (s : State) (lead : List Word) : LinkPort :=
  { s.lp with gapTimer := .running s.clock, transit := s.lp.transit ++ [.accepted lead] }

/-- NC after a WRITE answered DONE or PARKED (R158): the pointer moved on and the stale flag set. -/
def State.wrote (s : State) : NodeControl := { s.nc with pointer := s.nextPointer, stale := true }

/-- NC after the latch was filled at a pointer and direction (R156). -/
def State.pointed (s : State) (p : Pointer) (d : Direction) : NodeControl :=
  { s.nc with
    pointer := p
    direction := d
    latch := s.windowWord p.window p.index
    stale := false
    clockHold := if p = ⟨0, 7⟩ then lowerHalf s.clock else s.nc.clockHold }

/-- The request code and request tag of a request command; the other commands carry no request (R166). -/
def requestOf (c : Instr) : Option (Word × BitVec 8) :=
  match c with
  | .sync tag => some (1, tag)
  | .status tag => some (2, tag)
  | .point tag _ _ _ => some (3, tag)
  | .read tag => some (4, tag)
  | .write tag _ => some (5, tag)
  | .modeRun tag => some (6, tag)
  | .modeDrain tag => some (6, tag)
  | .modeStandby tag => some (6, tag)
  | .headEnable tag _ _ _ => some (7, tag)
  | .headDisable tag _ _ _ => some (8, tag)
  | .headStop tag _ _ _ => some (9, tag)
  | .sample tag _ _ _ => some (10, tag)
  | .scopeOpen tag => some (11, tag)
  | .scopeClose tag => some (12, tag)
  | .scopeAbandon tag => some (13, tag)
  | .unpark tag => some (14, tag)
  | .clearAlerts tag _ => some (15, tag)
  | .clearTrip tag => some (16, tag)
  | .clearWindow tag _ => some (17, tag)
  | .tallyClear tag => some (18, tag)
  | .resetNode tag => some (19, tag)
  | .coldReset | .coldResetRelease _ | .indexFrame _ | .reportFrame _ | .carrierFrame _ | .serviceFrame _
  | .foreignFrame _ | .unknownFrame _ | .damagedFrame _ | .bypassFrame _ | .frameDeparture | .frameGapExpiry
  | .chargeLimitExpiry | .clearWindowCompletion | .warmResetCompletion | .lineClockTick => none

/-- The frame's vent flag is clear and its turret check finds no mismatch: it trips nothing (R133, R135). -/
def State.follows (s : State) (f : IndexFrame) : Prop :=
  f.vent = false ∧ (s.lp.unchecked = true ∨
    (f.count = expectedCount f.advance s.lp.lastCount ∧ f.phase = expectedPhase f.advance s.lp.lastPhase))

/-- LP after a frame was only forwarded out of bypass. -/
def State.forwarded (s : State) (ws : List Word) : LinkPort :=
  { s.lp with gapTimer := .running s.clock, transit := s.lp.transit ++ [.unchanged ws] }

/-- The commands queued for one head. -/
def State.queuedFor (s : State) (h : Fin 24) : List HeadCommand := s.lp.queue.filter (fun c => c.head == h)

/-- The number of LOADED records of a recipe slot (R108). -/
def State.loadedOf (s : State) (k : Fin 8) : Nat :=
  s.tu.ring.toList.countP (fun r => r.state == .loaded && r.recipe == k)

/-- The recipe store after the in-use count of a slot fell by one (R95, R32), with the application of the slot's entries outside
any scope when the count is then 0 (R114). -/
def RecipeStore.lowered (rs : RecipeStore) (k : Fin 8) : RecipeStore :=
  let fallen : RecipeStore := { rs with inUse := rs.inUse.set k (rs.inUse[k] - 1) }
  if rs.inUse[k] ≤ 1 then fallen.applyParked (fun j => j == k) else fallen

/-! ### Invariants -/

/-- The capacities and ranges the manual states: R136, R111, R98, R140, R156, R63, R134. -/
structure State.Bounded (s : State) : Prop where
  queue : s.lp.queue.length ≤ 48
  park : s.rs.parkList.length ≤ 16
  mark : ∀ m, s.rs.scope = some m → m ≤ s.rs.parkList.length
  samples : s.vu.samples.length ≤ 4
  wake : s.nc.wakeCount ≤ 2
  pointer : s.nc.pointer.index < windowLength s.nc.pointer.window
  trimRows : s.hu.trimRows.toNat ≤ 16
  gapLimit : 5 ≤ s.lp.gapLimit.toNat ∧ s.lp.gapLimit.toNat ≤ 2000

/-- The modes: R140 (the trip cause is NONE in every mode but TRIP), R149 (every LOADED record carries TRIPPED in TRIP),
R151 and R160 (a busy operation keeps the mode it needs). -/
structure State.ModesLegal (s : State) : Prop where
  held : s.coldResetPin = true → s.nc.mode = .waitSync
  asleep : s.nc.mode = .waitSync → s.nc.busy = .idle
  cause : s.nc.tripCause.isSome = true ↔ s.nc.mode = .trip
  tripped : s.nc.mode = .trip → ∀ k, (s.record k).state = .loaded → hasCause .tripped (s.record k).causes = true
  clearing : ∀ since, s.nc.busy = .clearWindow .recipe since → s.nc.mode = .standby
  resetting : ∀ since, s.nc.busy = .resetNode since → s.nc.mode = .standby ∨ s.nc.mode = .trip

/-- The records: R6 and R8 (an EMPTY record is cleared, the verdict is present exactly when FINAL), R94 (PASS or SAMPLE only
with an empty cause set). -/
structure State.RecordsLegal (s : State) : Prop where
  cleared : ∀ k, (s.record k).state = .empty → s.record k = Record.cleared
  verdict : ∀ k, (s.record k).verdict.isSome = true ↔ (s.record k).state = .final
  clean : ∀ k, (s.record k).verdict = some .pass ∨ (s.record k).verdict = some .sample → (s.record k).causes = 0

/-- The head contexts: R36 (the bound states are those with a bound record; IDLE is enabled, DISABLED is not). -/
structure State.HeadsLegal (s : State) : Prop where
  bound : ∀ h, (s.head h).state.isBound = (s.head h).bound.isSome
  idle : ∀ h, (s.head h).state = .idle → (s.head h).enabled = true
  disabled : ∀ h, (s.head h).state = .disabled → (s.head h).enabled = false

/-- The account of the cans: R103 (the tallies balance), R108 (in-use counts the LOADED records), R21 (TU's report), R3 and
R144 (a valid table in RUN, DRAIN and TRIP, an empty ring in WAIT_SYNC and STANDBY), R13 (a LOADED record stands below J). -/
structure State.Accounted (s : State) : Prop where
  held : s.coldResetPin = true → s.nc.mode = .waitSync
  asleep : s.nc.mode = .waitSync → s.nc.busy = .idle
  table : s.nc.mode = .run ∨ s.nc.mode = .drain ∨ s.nc.mode = .trip → s.stationsValid = true
  empty : s.nc.mode = .waitSync ∨ s.nc.mode = .standby → ∀ k, (s.record k).state = .empty
  beforeGate : ∀ k, (s.record k).state = .loaded → s.position k < s.stationJ
  reported : s.nc.ringEmpty = s.allEmpty
  inUse : ∀ k, s.inUse k = s.loadedOf k
  balance : ∀ k : Fin 8, (s.vu.tallies[k]).admitted =
    (s.vu.tallies[k]).passed + (s.vu.tallies[k]).rejected + (s.vu.tallies[k]).sampled + (s.vu.tallies[k]).backedOut
      + BitVec.ofNat 32 (s.inUse k)

/-- The joins of heads and records (R37), over the account and the head contexts. -/
structure State.Joined (s : State) : Prop where
  accounted : s.Accounted
  heads : s.HeadsLegal
  joinedHead : ∀ h l, (s.head h).bound = some l →
    s.namesLoaded l = true ∧ (s.record l.slot).head = some h ∧ (s.record l.slot).bound = true ∧
      s.stationE ≤ s.position l.slot ∧ s.position l.slot < s.stationR
  joinedRecord : ∀ k, (s.record k).bound = true →
    (s.record k).engaged = true ∧ ∃ h, (s.record k).head = some h ∧ (s.head h).bound = some (s.tagOf k)
  working : ∀ h, (s.head h).bound.isSome = true → s.working

/-- The Command Queue and the charge-limit timers (R136, R48, R67, R69), over the joins: an OPEN is queued and a timer armed
only for a CHARGING head, a head has at most one OPEN queued, and an ABORTING head has its ABORT queued and nothing else. -/
structure State.QueueLegal (s : State) : Prop where
  joined : s.Joined
  opens : ∀ c, c ∈ s.lp.queue → c.kind = .openGas → (s.head c.head).state = .charging
  oneOpen : ∀ h, ((s.queuedFor h).filter (fun c => c.kind == .openGas)).length ≤ 1
  timers : ∀ h, (s.head h).timer.isSome = true → (s.head h).state = .charging
  aborts : ∀ h, (s.head h).state = .aborting → s.queuedFor h = [abortCommand h]
  positions : ∀ h l, (s.head h).bound = some l →
    ((s.head h).state = .engaged ∨ (s.head h).state = .charging → s.position l.slot < s.stationC) ∧
    ((s.head h).state = .clamped → s.position l.slot < s.stationG)

/-! ### The trip entry -/

/-- State t is state s after the trip entry with this cause (R147, R49), and everything else is as in s. -/
structure State.TripEntryTo (cause : TripCause) (s t : State) : Prop where
  nc : t.nc = { s.nc with mode := .trip, tripCause := some cause, alerts := addAlert .trip s.nc.alerts }
  records : ∀ k, t.record k = if (s.record k).state = .loaded then
    { s.record k with causes := addCause .tripped (s.record k).causes, bound := false } else s.record k
  heads : ∀ h, t.head h = if (s.head h).state.isBound = true then
    { s.head h with state := .aborting, bound := none, trailing := (s.head h).bound, timer := none }
    else { s.head h with timer := none }
  lp : t.lp = { s.lp with queue :=
    ((List.finRange 24).filter (fun h => (t.head h).state == .aborting)).map (fun h => ⟨h, .abort, 0⟩) }
  stations : t.tu.stations = s.tu.stations
  origin : t.tu.origin = s.tu.origin
  nextSerial : t.tu.nextSerial = s.tu.nextSerial
  trim : t.hu.trim = s.hu.trim ∧ t.hu.trimRows = s.hu.trimRows
  vu : t.vu = s.vu
  rs : t.rs = s.rs
  clock : t.clock = s.clock ∧ t.coldResetPin = s.coldResetPin
  outside : t.linkOut = s.linkOut ∧ t.pending = s.pending

end Sys2Proof.Machine
end

