-- ==== Sys2Proof/Certificates/Slice0/Obligations.lean ====
section
/-! DEFINITION. The statements for the provers, from the numbered rules. A clause that rests on a choice of the model names
its log entry. -/

open Sys2Proof Sys2Proof.Machine

/-! ### The step -/

/-- A step takes the command at the front of the queue and executes it on the state with the queue's rest; on an empty queue
the block idles (log entry 10). -/
def Obligations.StepTakesFront : Prop :=
  (∀ (c : Instr) (rest : List Instr) (s : State), s.pending = c :: rest → step s = exec c { s with pending := rest }) ∧
    ∀ s : State, s.pending = [] → step s = .next s

/-- Every command, in every form and state, answers a next state, and leaves the queue to the step. -/
def Obligations.EveryCommandCompletes : Prop :=
  ∀ (c : Instr) (s : State), ∃ t, exec c s = .next t ∧ t.pending = s.pending

/-! ### Pins and the line clock -/

/-- COLD_RESET gives every block its cold values (R22, R35, R58, R78, R98, R105, R124, R139, R140, R156, R60).
COLD_RESET_RELEASE reads the straps, starts the clock from 0, and the node stays in bypass (R169, R126, R60, R127); a release
while the pin is not asserted changes nothing (log entry 7). -/
def Obligations.ResetPinSetsColdValues : Prop :=
  (∀ s : State, ∃ t, exec .coldReset s = .next t ∧
    t.nc = { mode := .waitSync, wakeCount := 0, tripCause := none, alerts := 0, busy := .idle, ringEmpty := true,
             pointer := ⟨0, 0⟩, direction := .up, latch := 0, stale := true, clockHold := 0 } ∧
    t.tu.stations = #v[4, 6, 20, 24, 30, 36, 48] ∧ (∀ k, t.record k = Record.cleared) ∧
    t.tu.origin = 0 ∧ t.tu.nextSerial = 0 ∧
    (∀ h, t.head h = { state := .idle, enabled := true, bound := none, trailing := none, clampWait := 0,
                       doseCounter := 0, timer := none }) ∧
    (∀ r : Fin 16, t.hu.trim[r] = ⟨0, 1024⟩) ∧ t.hu.trimRows = 0 ∧
    t.vu.samples = [] ∧ (∀ k : Fin 8, t.vu.tallies[k] = ⟨0, 0, 0, 0, 0⟩) ∧
    (∀ i : Fin 128, t.rs.words[i] = 0) ∧ (∀ k, t.inUse k = 0) ∧ t.rs.parkList = [] ∧ t.rs.scope = none ∧
    t.lp.queue = [] ∧ t.lp.candidate = none ∧ t.lp.lastCount = 0 ∧ t.lp.lastPhase = 0 ∧ t.lp.unchecked = true ∧
    t.lp.gapTimer = .stopped ∧ t.lp.gapLimit = 50 ∧ t.clock = 0 ∧ t.coldResetPin = true ∧
    t.linkOut = s.linkOut ∧ t.pending = s.pending) ∧
  ∀ (straps : BitVec 6) (s : State),
    (s.coldResetPin = true → ∃ t, exec (.coldResetRelease straps) s = .next t ∧
      t = { s with coldResetPin := false, lp.nodeAddress := straps, nc.mode := .waitSync, clock := 0 } ∧
      t.bypassed = true ∧ (t.linkHeld = true ↔ straps.toNat = 0 ∨ straps.toNat = 63)) ∧
    (s.coldResetPin = false → exec (.coldResetRelease straps) s = .next s)

/-- The line clock (R60): a tick advances it by one, mod 2^32, and leaves it while the pin is asserted; nothing but a tick, a
cold reset and its release moves it. A tick changes nothing else, at the tick of an expiry or a completion too: those are
commands of their own (the model's choice, log entry 10). -/
def Obligations.LineClockCounts : Prop :=
  (∀ s : State,
    (s.coldResetPin = false → exec .lineClockTick s = .next { s with clock := s.clock + 1 }) ∧
    (s.coldResetPin = true → exec .lineClockTick s = .next s)) ∧
  ∀ (c : Instr) (s t : State), exec c s = .next t →
    t.clock = s.clock ∨ (c = .lineClockTick ∧ t.clock = s.clock + 1) ∨
      (t.clock = 0 ∧ (c = .coldReset ∨ ∃ a, c = .coldResetRelease a))

/-! ### The frame gap timer, the vent flag and the trip entry -/

/-- FRAME_GAP_EXPIRY (R134, R146): EXPIRED, with the alert LINK_GAP in STANDBY and TRIP, and the trip entry with cause
LINK_GAP in RUN and DRAIN (R147). Before the limit is reached the command changes nothing (log entry 8). -/
def Obligations.GapExpiryByMode : Prop :=
  ∀ s : State,
    (∀ since, s.lp.gapTimer = .running since → s.lp.gapLimit.toNat * 100 ≤ (s.clock - since).toNat →
      (s.nc.mode = .standby ∨ s.nc.mode = .trip → exec .frameGapExpiry s =
        .next { s with lp.gapTimer := .expired, nc.alerts := addAlert .linkGap s.nc.alerts }) ∧
      (s.working → s.Joined → ∃ t, exec .frameGapExpiry s = .next t ∧
        State.TripEntryTo .linkGap { s with lp.gapTimer := .expired } t)) ∧
    ((∀ since, s.lp.gapTimer = .running since → (s.clock - since).toNat < s.lp.gapLimit.toNat * 100) →
      exec .frameGapExpiry s = .next s)

/-- CARRIER_FRAME (R131, R135, R146): a set vent flag makes the trip entry with cause VENT in RUN and DRAIN and raises VENT
in STANDBY and TRIP; a clear one changes nothing; the frame waits for its command area. -/
def Obligations.CarrierTakesVentFlag : Prop :=
  ∀ (ws : List Word) (vent : Bool) (s : State), classify ws = .carrier vent → s.bypassed = false →
    (vent = false → exec (.carrierFrame ws) s = .next { s with lp := s.accepted (ws.take 2) }) ∧
    (vent = true → s.nc.mode = .standby ∨ s.nc.mode = .trip → exec (.carrierFrame ws) s =
      .next { s with lp := s.accepted (ws.take 2), nc.alerts := addAlert .vent s.nc.alerts }) ∧
    (vent = true → s.working → s.Joined → ∃ t, exec (.carrierFrame ws) s = .next t ∧
      State.TripEntryTo .vent { s with lp := s.accepted (ws.take 2) } t)

/-! ### Frames in bypass, foreign, unknown and damaged frames -/

/-- Frames that pass unchanged: in bypass any frame, with nothing taken from it, whatever the row that names it (R127; a frame
still in transit leaves first: log entry 4); out of bypass a foreign SERVICE, a REPLY and an unknown frame, which only restart
the frame gap timer (R125, R126, R134). The link is held while the pin is asserted or the straps give no address, and the node is
in bypass then and in WAIT_SYNC (R127, R169). -/
def Obligations.FramesPassUnchanged : Prop :=
  (∀ s : State,
    (s.linkHeld = true ↔ s.coldResetPin = true ∨ s.lp.nodeAddress.toNat = 0 ∨ s.lp.nodeAddress.toNat = 63) ∧
    (s.bypassed = true ↔ s.linkHeld = true ∨ s.nc.mode = .waitSync) ∧
    ∀ f : ServiceFrame, s.addressed f = true ↔ f.destination = s.lp.nodeAddress.setWidth 16) ∧
  ∀ (ws : List Word) (s : State),
    (∀ c, c ∈ [Instr.indexFrame ws, .reportFrame ws, .carrierFrame ws, .serviceFrame ws, .foreignFrame ws,
        .unknownFrame ws, .damagedFrame ws, .bypassFrame ws] →
      (s.linkHeld = true ∨ (s.nc.mode = .waitSync ∧ ∀ f, classify ws = .service f → s.addressed f = false)) →
      exec c s = .next (if s.lp.transit = [] then { s with linkOut := s.linkOut ++ [ws] }
        else { s with lp.transit := s.lp.transit ++ [.unchanged ws] })) ∧
    (s.bypassed = false →
      (∀ f, classify ws = .service f → s.addressed f = false →
        exec (.foreignFrame ws) s = .next { s with lp := s.forwarded ws }) ∧
      (classify ws = .reply → exec (.foreignFrame ws) s = .next { s with lp := s.forwarded ws }) ∧
      (classify ws = .unknown → exec (.unknownFrame ws) s = .next { s with lp := s.forwarded ws }))

/-- DAMAGED_FRAME out of bypass (R129, R130): forwarded unchanged, FRAME_DAMAGED, and FRAME_LOSS on the bound record of every
head in CLAMPED, CHARGING or CRIMPING; nothing else changes. -/
def Obligations.DamagedFrameMarksLoss : Prop :=
  ∀ (ws : List Word) (s : State), classify ws = .damaged → s.bypassed = false → s.Joined →
    ∃ t, exec (.damagedFrame ws) s = .next t ∧
      t = { s with lp := s.forwarded ws, nc.alerts := addAlert .frameDamaged s.nc.alerts, tu.ring := t.tu.ring } ∧
      (∀ h l, (s.head h).bound = some l →
        (s.head h).state = .clamped ∨ (s.head h).state = .charging ∨ (s.head h).state = .crimping →
        t.record l.slot = { s.record l.slot with causes := addCause .frameLoss (s.record l.slot).causes }) ∧
      (∀ k, (∀ h, (s.head h).bound = some (s.tagOf k) →
        ¬ ((s.head h).state = .clamped ∨ (s.head h).state = .charging ∨ (s.head h).state = .crimping)) →
        t.record k = s.record k)

/-- A frame is read from its words (R125, R128, R164, R165): INDEX, CARRIER, REPORT, SERVICE and REPLY by their kinds, lengths and
fields, and a kind word other than 1 to 5 is unknown. A phase above 23, an advance code of 0, a report of another kind, more than
12 reports and a wrong length make it damaged, and one changed word does so to any frame (the check word). -/
def Obligations.FramesReadFromWords : Prop :=
  (∀ (vent count x : Word) (rest : List Word), rest.length = 22 →
    (∀ (φ : Fin 24) (a : Advance), (x.extractLsb' 0 5).toNat = φ.val →
      (x.extractLsb' 8 2).toNat = (match a with | .forward => 1 | .dwell => 2 | .reverse => 3) →
      classify (withCheck ([1, vent, count, x] ++ rest)) = .index ⟨vent.getLsbD 0, count, φ, a⟩) ∧
    (23 < (x.extractLsb' 0 5).toNat ∨ x.extractLsb' 8 2 = 0 →
      classify (withCheck ([1, vent, count, x] ++ rest)) = .damaged)) ∧
  (∀ (vent : Word) (rest : List Word), rest.length = 17 →
    classify (withCheck ([3, vent] ++ rest)) = .carrier (vent.getLsbD 0) ∧
    ∀ qs : List (Word × Word × Word × Word), qs.length ≤ 12 →
      classify (withCheck ([2, vent, BitVec.ofNat 16 qs.length] ++
        qs.flatMap (fun q => [q.1, q.2.1, q.2.2.1, q.2.2.2]) ++ rest)) =
        (match qs.mapM (fun q => decodeReport q.1 q.2.1 q.2.2.1 q.2.2.2) with
          | some rs => .report ⟨vent.getLsbD 0, rs⟩ | none => .damaged)) ∧
  (∀ (w a b c : Word), ∀ n, n = (w.extractLsb' 12 4).toNat →
    (∀ p : Fin 16, n = 1 → (w.extractLsb' 0 4).toNat = p.val →
      decodeReport w a b c = some (.infeed (w.getLsbD 8) p a (w.getLsbD 9) b)) ∧
    (n = 2 → decodeReport w a b c = some (.event a
      [EventKind.clamped, .opened, .closed, .bottom, .fault][(w.extractLsb' 0 3).toNat]? b)) ∧
    (n = 3 → decodeReport w a b c = some (.flow a (b.extractLsb' 0 8))) ∧
    (n = 4 → decodeReport w a b c = some (.measure
      [MeasureKind.height, .diameter, .gross][(w.extractLsb' 0 2).toNat]? (w.getLsbD 4) a b c)) ∧
    (n = 0 ∨ 4 < n → decodeReport w a b c = none)) ∧
  (∀ (k : Word) (ws : List Word),
    (k.toNat = 0 ∨ 5 < k.toNat → classify (withCheck (k :: ws)) = .unknown) ∧
    (k = 5 → ws.length = 9 → classify (withCheck (k :: ws)) = .reply) ∧
    ((k = 1 ∧ ws.length ≠ 25) ∨ (k = 2 ∧ (ws.length ≠ 4 * (ws.getD 1 0).toNat + 19 ∨ 12 < (ws.getD 1 0).toNat)) ∨
      (k = 3 ∧ ws.length ≠ 18) ∨ (k = 4 ∧ ws.length ≠ 6) ∨ (k = 5 ∧ ws.length ≠ 9) →
      classify (withCheck (k :: ws)) = .damaged)) ∧
  (∀ f : ServiceFrame, classify (serviceWords f) = .service f) ∧
    ∀ (ws : List Word) (i : Nat) (w : Word), classify ws ≠ .damaged → i < ws.length → w ≠ frameWord ws i →
      classify (ws.set i w) = .damaged

/-! ### Departure -/

/-- FRAME_DEPARTURE of an accepted frame (R125, R137, R138, R67, R48): the oldest commands, up to eight, in the area's places
from the first, the rest of the area empty, which is 0 in both words of a place (the model's choice, log entry 19); the node
status slot and a matching check word; the OPENs arm their timers and the ABORTs free their heads; nothing else changes. A
frame to be forwarded unchanged leaves as it came, and a REPLY with its status slot (R126, R129, R138); no command leaves in
them. With no frame in transit nothing leaves (log entry 3). The bits of the node status slot (R138, R165): the mode, busy,
alert present and the trip cause; and of a command entry (R165): the head and the kind, then the argument. -/
def Obligations.DepartureSendsCommands : Prop :=
  (∀ (lead : List Word) (rest : List TransitFrame) (s : State), s.lp.transit = .accepted lead :: rest → s.HeadsLegal →
    ∃ t, exec .frameDeparture s = .next t ∧
      t = { s with
        lp := { s.lp with transit := rest, queue := s.lp.queue.drop 8 }
        hu.heads := t.hu.heads
        linkOut := s.linkOut ++ [withCheck (lead
          ++ ((s.lp.queue.take 8).flatMap HeadCommand.entry ++ List.replicate (16 - 2 * (s.lp.queue.take 8).length) 0)
          ++ [s.statusSlot])] } ∧
      (∀ h, (∃ c ∈ s.lp.queue.take 8, c.head = h ∧ c.kind = .abort) → (s.head h).state = .aborting →
        t.head h = { s.head h with state := if (s.head h).enabled = true then .idle else .disabled }) ∧
      (∀ h l, (∃ c ∈ s.lp.queue.take 8, c.head = h ∧ c.kind = .openGas) → (s.head h).bound = some l →
        t.head h = { s.head h with
          timer := some ⟨s.clock, (s.recipeWord (s.record l.slot).recipe 3).toNat * 100⟩ }) ∧
      (∀ h, ¬ ((∃ c ∈ s.lp.queue.take 8, c.head = h ∧ c.kind = .abort) ∧ (s.head h).state = .aborting) →
        ¬ ((∃ c ∈ s.lp.queue.take 8, c.head = h ∧ c.kind = .openGas) ∧ (s.head h).bound.isSome = true) →
        t.head h = s.head h)) ∧
  (∀ (ws : List Word) (rest : List TransitFrame) (s : State),
    (s.lp.transit = .unchanged ws :: rest →
      exec .frameDeparture s = .next { s with lp.transit := rest, linkOut := s.linkOut ++ [ws] }) ∧
    (s.lp.transit = .reply ws :: rest → exec .frameDeparture s =
      .next { s with lp.transit := rest, linkOut := s.linkOut ++ [withCheck (ws ++ [s.statusSlot])] }) ∧
    (s.lp.transit = [] → exec .frameDeparture s = .next s)) ∧
  (∀ s : State,
    s.statusSlot.extractLsb' 0 2 = (match s.nc.mode with
      | .waitSync => 0 | .standby => 0 | .run => 1 | .drain => 2 | .trip => 3) ∧
    (s.statusSlot.getLsbD 2 = true ↔ s.nc.busy ≠ .idle) ∧ (s.statusSlot.getLsbD 3 = true ↔ s.nc.alerts ≠ 0) ∧
    s.statusSlot.extractLsb' 4 3 = (match s.nc.tripCause with
      | none => 0 | some .vent => 1 | some .linkGap => 2 | some .trackLost => 3 | some .queueFull => 4) ∧
    s.statusSlot.extractLsb' 7 9 = 0) ∧
  ∀ c : HeadCommand, ∃ w, c.entry = [w, c.argument] ∧ (w.extractLsb' 0 5).toNat = c.head.val ∧
    w.extractLsb' 5 3 = 0 ∧ w.extractLsb' 8 3 = (match c.kind with
      | .engage => 1 | .openGas => 2 | .closeGas => 3 | .crimp => 4 | .release => 5 | .abort => 6) ∧
    w.extractLsb' 11 5 = 0

/-! ### INDEX frames -/

/-- A DWELL advance moves nothing and writes HOLD, NONE and the station tags of the records at K and W (R16, R21); a tag
names the LOADED or FINAL record at its station, and an EMPTY record or a word above 63 gives none (R20, R1). A tag is written as
its slot and its serial, and none as 0xFFFF and 0 (R164). -/
def Obligations.DwellMovesNothing : Prop :=
  (∀ (ws : List Word) (f : IndexFrame) (s : State), classify ws = .index f → f.advance = .dwell → s.bypassed = false →
    s.follows f → ¬ (s.nc.mode = .drain ∧ s.allEmpty = true) →
    exec (.indexFrame ws) s = .next { s with
      lp := { s.lp with
        gapTimer := .running s.clock
        transit := s.lp.transit ++
          [.accepted (ws.take 4 ++ [0] ++ tagWords (s.stationTag s.stationK) ++ tagWords (s.stationTag s.stationW))]
        lastCount := f.count
        lastPhase := f.phase
        unchecked := false }
      nc.ringEmpty := s.allEmpty }) ∧
  (∀ (p : Nat) (s : State),
    (63 < p → s.stationTag p = none) ∧
    (p ≤ 63 → (s.record (s.slotAt p)).state = .empty → s.stationTag p = none) ∧
    (p ≤ 63 → (s.record (s.slotAt p)).state ≠ .empty →
      s.stationTag p = some ⟨s.slotAt p, (s.record (s.slotAt p)).serial⟩)) ∧
  tagWords none = [0xFFFF, 0] ∧ ∀ l : Link, tagWords (some l) = [BitVec.ofNat 16 l.slot.val, l.serial]

/-- The turret check (R133, R131, R146): every INDEX frame is adopted, in every mode. With unchecked = no, a mismatch trips RUN
and DRAIN with TRACK_LOST and raises the alert in TRIP. A frame that matches, and any frame with unchecked = yes or in STANDBY,
finds no TRACK_LOST: the alert and the trip cause stay, but for a trip by its vent flag or by a full queue. A vent flag trips
RUN and DRAIN with VENT when no mismatch did, and else raises VENT. (At most 25 commands are queued by one advance, so a queue
of at most 23 does not trip the node by overflow.) -/
def Obligations.TurretCheckByMode : Prop :=
  ∀ (ws : List Word) (f : IndexFrame) (s : State), classify ws = .index f → s.bypassed = false →
    ∃ t, exec (.indexFrame ws) s = .next t ∧
      t.lp.lastCount = f.count ∧ t.lp.lastPhase = f.phase ∧ t.lp.unchecked = false ∧
      (s.nc.mode = .standby → t.nc.mode = .standby ∧ t.nc.tripCause = s.nc.tripCause ∧
        hasAlert .trackLost t.nc.alerts = hasAlert .trackLost s.nc.alerts) ∧
      (s.nc.mode = .trip → t.nc.mode = .trip ∧ t.nc.tripCause = s.nc.tripCause) ∧
      (f.vent = true → s.nc.mode = .standby ∨ s.nc.mode = .trip → hasAlert .vent t.nc.alerts = true) ∧
      (s.lp.unchecked = false →
        (f.count ≠ expectedCount f.advance s.lp.lastCount ∨ f.phase ≠ expectedPhase f.advance s.lp.lastPhase) →
        (s.working → t.nc.mode = .trip ∧ t.nc.tripCause = some .trackLost ∧ hasAlert .trip t.nc.alerts = true ∧
          (f.vent = true → hasAlert .vent t.nc.alerts = true)) ∧
        (s.nc.mode = .trip → hasAlert .trackLost t.nc.alerts = true)) ∧
      (s.lp.unchecked = true ∨
          (f.count = expectedCount f.advance s.lp.lastCount ∧ f.phase = expectedPhase f.advance s.lp.lastPhase) →
        hasAlert .trackLost t.nc.alerts = hasAlert .trackLost s.nc.alerts ∧
        (s.working → f.vent = true → t.nc.mode = .trip ∧ t.nc.tripCause = some .vent ∧
          hasAlert .trip t.nc.alerts = true) ∧
        (s.working → f.vent = false →
          ((t.nc.mode ≠ .trip ∧ t.nc.tripCause = s.nc.tripCause) ∨
            (t.nc.mode = .trip ∧ t.nc.tripCause = some .queueFull)) ∧
          (s.QueueLegal → s.lp.queue.length ≤ 23 → t.nc.mode ≠ .trip)))

/-- A FORWARD advance (R4, R11, R17): the origin falls by one; the record at 63 leaves, and its slot is EMPTY or holds a can fed
in RUN; every other FINAL and EMPTY record stays as it was, with its slot. The frame waits for its command area with its words 0
to 3 as they came, the feed and gate slots, and the tags of the records that stand at K and W after the move (R20, R164). A
FINAL record that arrives at J has its verdict in the gate slot again, and no tally of verdicts rises for it; with no LOADED or
FINAL record arriving there the gate slot holds NONE (R13). Position p holds slot (origin + p) mod 64 (R4), and the station words
name positions in the order E, G, C, R, K, W, J (R1). -/
def Obligations.ForwardMovesOrigin : Prop :=
  (∀ (ws : List Word) (f : IndexFrame) (s : State), classify ws = .index f → f.advance = .forward → s.bypassed = false →
    s.Accounted →
    ∃ t feed gate, exec (.indexFrame ws) s = .next t ∧
      t.lp.transit = s.lp.transit ++ [.accepted (ws.take 4 ++
        [BitVec.ofNat 16 ((if feed = true then 1 else 0) + 16 * (match gate with
          | none => 0 | some .pass => 1 | some .reject => 2 | some .sample => 3))] ++
        tagWords (t.stationTag t.stationK) ++ tagWords (t.stationTag t.stationW))] ∧
      t.tu.origin = s.tu.origin - 1 ∧ t.tu.stations = s.tu.stations ∧
      (t.record (s.slotAt 63) = Record.cleared ∨
        (s.nc.mode = .run ∧ (t.record (s.slotAt 63)).state = .loaded ∧
          (t.record (s.slotAt 63)).serial = s.tu.nextSerial)) ∧
      (∀ k, k ≠ s.slotAt 63 → (s.record k).state = .final ∨ (s.record k).state = .empty → t.record k = s.record k) ∧
      ((∀ k, s.position k + 1 = s.stationJ → (s.record k).state = .empty) → gate = none) ∧
      (∀ k v, (s.record k).state = .final → (s.record k).verdict = some v → s.position k + 1 = s.stationJ →
        gate = some v ∧
        ∀ j : Fin 8, (t.vu.tallies[j]).passed = (s.vu.tallies[j]).passed ∧
          (t.vu.tallies[j]).rejected = (s.vu.tallies[j]).rejected ∧
          (t.vu.tallies[j]).sampled = (s.vu.tallies[j]).sampled)) ∧
  ∀ (p : Nat) (k : Fin 64) (s : State),
    (s.slotAt p).val = (s.tu.origin.val + p) % 64 ∧ s.position k = (k.val + 64 - s.tu.origin.val) % 64 ∧
    [s.stationE, s.stationG, s.stationC, s.stationR, s.stationK, s.stationW, s.stationJ] =
      s.tu.stations.toList.map BitVec.toNat

/-- A REVERSE advance (R14, R15, R32): the origin rises by one; a LOADED record at position 0 is backed out and its account
closed, a FINAL one freed; the candidate stays. A bound request is re-armed; without one the Sample List stays, and no other
slot's tallies change. HOLD, NONE and the tags of the records at K and W after the move are written behind the frame's words 0
to 3 (R20, R164). A back-out that brings the in-use count of its slot to 0 applies the slot's entries outside any scope (R34,
R114); an advance that ends a drain then applies the others (R116). -/
def Obligations.ReverseBacksOut : Prop :=
  ∀ (ws : List Word) (f : IndexFrame) (s : State), classify ws = .index f → f.advance = .reverse → s.bypassed = false →
    s.Accounted → s.RecordsLegal →
    ∃ t, exec (.indexFrame ws) s = .next t ∧
      t.lp.transit = s.lp.transit ++ [.accepted (ws.take 4 ++ [0] ++ tagWords (t.stationTag t.stationK) ++
        tagWords (t.stationTag t.stationW))] ∧
      t.tu.origin = s.tu.origin + 1 ∧ t.tu.stations = s.tu.stations ∧ t.lp.candidate = s.lp.candidate ∧
      t.record (s.slotAt 0) = Record.cleared ∧
      ((s.record (s.slotAt 0)).state = .loaded → ∀ k, k = (s.record (s.slotAt 0)).recipe →
        t.inUse k = s.inUse k - 1 ∧
        t.vu.tallies[k] = { s.vu.tallies[k] with backedOut := (s.vu.tallies[k]).backedOut + 1 } ∧
        (∀ j : Fin 8, j ≠ k → t.vu.tallies[j] = s.vu.tallies[j]) ∧
        ((s.record (s.slotAt 0)).sample = none → t.vu.samples = s.vu.samples) ∧
        (∀ q, (s.record (s.slotAt 0)).sample = some q →
          (s.vu.samples.length < 4 → t.vu.samples = q :: s.vu.samples) ∧
          (4 ≤ s.vu.samples.length → t.vu.samples = s.vu.samples ∧ hasAlert .sampleLost t.nc.alerts = true)) ∧
        t.rs = (if t.nc.mode = .standby then (s.rs.lowered k).applyParked (fun _ => true) else s.rs.lowered k)) ∧
      ((s.record (s.slotAt 0)).state ≠ .loaded → t.vu = s.vu ∧ (∀ k, t.inUse k = s.inUse k) ∧
        t.rs = (if s.nc.mode = .drain ∧ t.nc.mode = .standby then s.rs.applyParked (fun _ => true) else s.rs))

/-- The jog-back (R47, R15): the bound record that comes back to E − 1 takes JOG_BACK, its head is unbound and goes to
ABORTING, and ABORT is queued in place of the head's other commands. No other head and, but for the one at position 0, no other
record changes; and with no bound record at E no head, no command and no such record does (R39). -/
def Obligations.JogBackAborts : Prop :=
  (∀ (ws : List Word) (f : IndexFrame) (h : Fin 24) (l : Link) (s : State), classify ws = .index f → f.advance = .reverse →
    s.bypassed = false → s.follows f → s.Joined → (s.head h).bound = some l → s.position l.slot = s.stationE →
    (s.lp.queue.filter (fun c => c.head != h)).length < 48 →
    ∃ t, exec (.indexFrame ws) s = .next t ∧
      t.record l.slot = { s.record l.slot with
        bound := false, causes := addCause .jogBack (s.record l.slot).causes } ∧
      t.head h = { s.head h with state := .aborting, bound := none, trailing := some l, timer := none } ∧
      t.lp.queue = s.lp.queue.filter (fun c => c.head != h) ++ [⟨h, .abort, 0⟩] ∧
      (∀ h', h' ≠ h → t.head h' = s.head h') ∧
      (∀ k, k ≠ l.slot → k ≠ s.slotAt 0 → t.record k = s.record k)) ∧
  ∀ (ws : List Word) (f : IndexFrame) (s : State), classify ws = .index f → f.advance = .reverse → s.bypassed = false →
    s.follows f → s.Joined → (∀ h l, (s.head h).bound = some l → s.position l.slot ≠ s.stationE) →
    ∃ t, exec (.indexFrame ws) s = .next t ∧ t.hu = s.hu ∧ t.lp.queue = s.lp.queue ∧
      ∀ k, k ≠ s.slotAt 0 → t.record k = s.record k

/-- In DRAIN (R145), an advance of any kind after which the ring is empty leaves the node in STANDBY, and one after which it is
not leaves it in DRAIN; the passage to STANDBY applies every entry outside any scope (R116), after the back-out that emptied
the ring lowered its slot's count. A vent flag or a mismatch of the frame leaves the node in TRIP instead (R146). (At most 25
commands are queued by one advance, so a queue of at most 23 does not trip the node by overflow.) -/
def Obligations.DrainEndsWithRing : Prop :=
  ∀ (ws : List Word) (f : IndexFrame) (s : State), classify ws = .index f → s.bypassed = false → s.nc.mode = .drain →
    ∃ t, exec (.indexFrame ws) s = .next t ∧ t.nc.ringEmpty = t.allEmpty ∧
      (s.follows f → s.QueueLegal → s.lp.queue.length ≤ 23 →
        (t.allEmpty = false → t.nc.mode = .drain) ∧
        (t.allEmpty = true → t.nc.mode = .standby ∧ ∃ rs : RecipeStore, t.rs = rs.applyParked (fun _ => true) ∧
          rs = if f.advance = .reverse ∧ (s.record (s.slotAt 0)).state = .loaded
            then s.rs.lowered (s.record (s.slotAt 0)).recipe else s.rs)) ∧
      (¬ s.follows f → t.nc.mode = .trip)

/-! ### Admission -/

/-- FEED (R26, R28, R29, R30): with none of the holding conditions, the record now at position 0 is LOADED with the can's
fields, the serial rises, admitted rises, the candidate register is emptied, and the oldest matching sample request is bound.
(A trip by a full queue later in the same advance adds TRIPPED, R148.) -/
def Obligations.FeedLoadsRecord : Prop :=
  ∀ (ws : List Word) (f : IndexFrame) (s : State) (c : Candidate) (p : Fin 16) (k : Fin 8) (h : Fin 24),
    classify ws = .index f → f.advance = .forward → s.bypassed = false → s.nc.mode = .run → s.follows f → s.Joined →
    s.lp.candidate = some c → c.code = some p → k.val = p.val % 8 → h.val = (f.phase.val + s.stationE) % 24 →
    s.recipeWord k 0 ≠ 0 → (∀ e ∈ s.rs.parkList, e.slot ≠ k) → (s.head h).enabled = true → (s.head h).state ≠ .faulted →
    ∃ t lead causes, exec (.indexFrame ws) s = .next t ∧ t.lp.transit = s.lp.transit ++ [.accepted lead] ∧
      (lead.getD 4 0).getLsbD 0 = true ∧ t.lp.candidate = none ∧ t.tu.nextSerial = s.tu.nextSerial + 1 ∧
      (causes = 0 ∨ (causes = addCause .tripped 0 ∧ t.nc.mode = .trip)) ∧
      t.record (s.slotAt 63) =
        { state := .loaded, serial := s.tu.nextSerial, product := p, recipe := k, predicted := h, tare := c.tare,
          temperature := c.temperature, sample := s.vu.samples.find? (fun q => q.kind.isFor k h), causes := causes } ∧
      (t.vu.tallies[k]).admitted = (s.vu.tallies[k]).admitted + 1 ∧
      ((∀ j, (s.record j).state = .loaded → s.position j + 1 ≠ s.stationJ) →
        t.inUse k = s.inUse k + 1 ∧ t.vu.samples = s.vu.samples.eraseP (fun q => q.kind.isFor k h))

/-- HOLD (R25, R26): outside RUN, after a trip by the same frame, or by one of the five conditions, the feed slot holds HOLD,
the candidate is kept and no record is loaded; UNCODED_CAN and SLOT_EMPTY are raised by their conditions. The recipe slot is the
product code mod 8 (R6) and the predicted head (φ + E) mod 24 (R19). -/
def Obligations.HoldKeepsCandidate : Prop :=
  (∀ (p : Fin 16) (φ : Fin 24) (s : State), (recipeOf p).val = p.val % 8 ∧
    (s.predictedHead φ).val = (φ.val + s.stationE) % 24) ∧
  ∀ (ws : List Word) (f : IndexFrame) (s : State), classify ws = .index f → f.advance = .forward → s.bypassed = false →
    s.Accounted →
    (s.nc.mode ≠ .run ∨ ¬ s.follows f ∨ s.lp.candidate = none ∨ (∃ c, s.lp.candidate = some c ∧
      (c.code = none ∨ ∃ p, c.code = some p ∧ (s.recipeWord (recipeOf p) 0 = 0 ∨
        (∃ e ∈ s.rs.parkList, e.slot = recipeOf p) ∨ (s.head (s.predictedHead f.phase)).enabled = false ∨
        (s.head (s.predictedHead f.phase)).state = .faulted)))) →
    ∃ t lead, exec (.indexFrame ws) s = .next t ∧ t.lp.transit = s.lp.transit ++ [.accepted lead] ∧
      (lead.getD 4 0).getLsbD 0 = false ∧ t.lp.candidate = s.lp.candidate ∧ t.tu.nextSerial = s.tu.nextSerial ∧
      t.record (s.slotAt 63) = Record.cleared ∧
      (s.nc.mode = .run → s.follows f → ∀ c, s.lp.candidate = some c →
        (c.code = none → hasAlert .uncodedCan t.nc.alerts = true) ∧
        (∀ p, c.code = some p → s.recipeWord (recipeOf p) 0 = 0 → hasAlert .slotEmpty t.nc.alerts = true))

/-! ### Arrivals at the turret -/

/-- The engagement attempt at E (R40, R41): an IDLE enabled head is bound and sent ENGAGE; any other gives NO_HEAD, with the
head as it was. A LOADED record that is engaged already, or has a cause, passes E as it was, and no ENGAGE is queued. In TRIP
the attempt writes head and engaged and binds nothing. An unbound LOADED record that arrives at any other position but J is
unchanged (R12, R39). At most 25 commands are queued by one advance, so a queue of at most 23 takes them all (R136). -/
def Obligations.EngagementAtE : Prop :=
  (∀ (ws : List Word) (f : IndexFrame) (k : Fin 64) (s : State), classify ws = .index f → f.advance = .forward →
    s.bypassed = false → s.working → s.follows f → s.QueueLegal → s.lp.queue.length ≤ 23 →
    (s.record k).state = .loaded → s.position k + 1 = s.stationE → (s.record k).engaged = false →
    (s.record k).causes = 0 →
    ∃ t, exec (.indexFrame ws) s = .next t ∧
      ((s.head f.phase).state = .idle →
        t.record k = { s.record k with head := some f.phase, engaged := true, bound := true } ∧
        t.head f.phase = { s.head f.phase with
          state := .engaged, bound := some (s.tagOf k), trailing := none, clampWait := 0 } ∧
        (⟨f.phase, .engage, 0⟩ : HeadCommand) ∈ t.lp.queue) ∧
      ((s.head f.phase).state ≠ .idle →
        t.record k = { s.record k with head := some f.phase, engaged := true, causes := addCause .noHead 0 } ∧
        ((s.head f.phase).bound = none → t.head f.phase = s.head f.phase) ∧
        ((⟨f.phase, .engage, 0⟩ : HeadCommand) ∈ t.lp.queue → ⟨f.phase, .engage, 0⟩ ∈ s.lp.queue))) ∧
  ∀ (ws : List Word) (f : IndexFrame) (k : Fin 64) (s : State), classify ws = .index f → f.advance = .forward →
    s.bypassed = false → s.follows f → s.QueueLegal → s.lp.queue.length ≤ 23 → (s.record k).state = .loaded →
    ∃ t, exec (.indexFrame ws) s = .next t ∧
      (s.position k + 1 = s.stationE → (s.record k).engaged = true ∨ (s.record k).causes ≠ 0 →
        t.record k = s.record k ∧ ((s.head f.phase).bound = none → t.head f.phase = s.head f.phase) ∧
        ∀ h, (⟨h, .engage, 0⟩ : HeadCommand) ∈ t.lp.queue → ⟨h, .engage, 0⟩ ∈ s.lp.queue) ∧
      (s.position k + 1 = s.stationE → s.nc.mode = .trip → (s.record k).engaged = false → (s.record k).causes = 0 →
        t.record k = { s.record k with head := some f.phase, engaged := true } ∧ t.hu = s.hu) ∧
      (s.position k + 1 ≠ s.stationE → s.position k + 1 ≠ s.stationJ → (s.record k).bound = false →
        t.record k = s.record k)

/-- The forward arrivals of a bound record below and at C (R42, R43, R44, R45, R64, R65, R66): the clamp wait and its abort,
the opening, and the end of a charge at C with the crimp. -/
def Obligations.ArrivalsUpToCrimp : Prop :=
  ∀ (ws : List Word) (f : IndexFrame) (h : Fin 24) (l : Link) (s : State), classify ws = .index f → f.advance = .forward →
    s.bypassed = false → s.follows f → s.QueueLegal → s.lp.queue.length ≤ 23 → (s.head h).bound = some l →
    ∃ t, exec (.indexFrame ws) s = .next t ∧ ∀ r c p, r = s.record l.slot → c = s.head h → p = s.position l.slot + 1 →
      (c.state = .engaged →
        (c.clampWait + 1 ≤ (s.recipeWord r.recipe 4).toNat → p ≠ s.stationC →
          t.record l.slot = r ∧ t.head h = { c with clampWait := c.clampWait + 1 }) ∧
        ((s.recipeWord r.recipe 4).toNat < c.clampWait + 1 ∨ p = s.stationC →
          t.record l.slot = { r with bound := false, causes := addCause .noClamp r.causes } ∧
          t.head h = { c with clampWait := c.clampWait + 1, state := .aborting, bound := none, trailing := some l,
                              timer := none } ∧
          (⟨h, .abort, 0⟩ : HeadCommand) ∈ t.lp.queue)) ∧
      (c.state = .clamped →
        (p < s.stationG → t.record l.slot = r ∧ t.head h = c) ∧
        (s.stationG ≤ p →
          t.record l.slot = { r with
            doseLoaded := some (trimmedDose s r), causes := addCauseIf (trimFactor s r).2 r.causes } ∧
          t.head h = { c with state := .charging, doseCounter := trimmedDose s r } ∧
          (⟨h, .openGas, 0⟩ : HeadCommand) ∈ t.lp.queue)) ∧
      (c.state = .charging →
        (p ≠ s.stationC → t.record l.slot = r ∧ t.head h = c) ∧
        (p = s.stationC →
          t.record l.slot = { r with causes := addCause .shortGas r.causes } ∧
          t.head h = { c with state := .crimping, timer := none } ∧
          (⟨h, .closeGas, 0⟩ : HeadCommand) ∈ t.lp.queue ∧
          (⟨h, .crimp, s.recipeWord r.recipe 15⟩ : HeadCommand) ∈ t.lp.queue))

/-- The crimp from C on and the release at R (R45, R46, R79): CRIMP with CRIMP_DEPTH for a SETTLING head; at R the record is
released and unbound, with NO_BOTTOM for CRIMPING and NO_CRIMP for SETTLING, and the head is IDLE or DISABLED by its flag. -/
def Obligations.CrimpAndRelease : Prop :=
  ∀ (ws : List Word) (f : IndexFrame) (h : Fin 24) (l : Link) (s : State), classify ws = .index f → f.advance = .forward →
    s.bypassed = false → s.follows f → s.QueueLegal → s.lp.queue.length ≤ 23 → (s.head h).bound = some l →
    (s.head h).state = .settling ∨ (s.head h).state = .crimping ∨ (s.head h).state = .crimped →
    ∃ t, exec (.indexFrame ws) s = .next t ∧ ∀ r c p, r = s.record l.slot → c = s.head h → p = s.position l.slot + 1 →
      (p < s.stationR → c.state = .settling → s.stationC ≤ p →
        t.record l.slot = r ∧ t.head h = { c with state := .crimping, timer := none } ∧
        (⟨h, .crimp, s.recipeWord r.recipe 15⟩ : HeadCommand) ∈ t.lp.queue) ∧
      (p < s.stationR → ¬ (c.state = .settling ∧ s.stationC ≤ p) → t.record l.slot = r ∧ t.head h = c) ∧
      (p = s.stationR →
        t.record l.slot = { r with
          released := true
          bound := false
          causes := if c.state = .crimping then addCause .noBottom r.causes
            else if c.state = .settling then addCause .noCrimp r.causes else r.causes } ∧
        t.head h = { c with
          state := if c.enabled = true then .idle else .disabled
          bound := none
          trailing := some l
          timer := none } ∧
        (⟨h, .release, 0⟩ : HeadCommand) ∈ t.lp.queue)

/-! ### The gate -/

/-- What the bands add (R91, R92, R93): each enforced band its own cause when its check fails, MISSING_VALUE when a field it
needs is absent; and every cause the record held stays. -/
def Obligations.BandsAddCauses : Prop :=
  ∀ (s : State) (r : Record), ∀ w mask, w = s.recipeWord r.recipe → mask = s.recipeWord r.recipe 5 →
    (hasCause .gasMass (bandCauses s r) = true ↔ hasCause .gasMass r.causes = true ∨
      (mask.getLsbD 0 = true ∧ ∃ g, r.gross = some g ∧
        ¬ (((w 6).toNat : Int) ≤ (g.toNat : Int) - r.tare.toNat ∧ (g.toNat : Int) - r.tare.toNat ≤ (w 7).toNat))) ∧
    (hasCause .crimpHeight (bandCauses s r) = true ↔ hasCause .crimpHeight r.causes = true ∨
      (mask.getLsbD 1 = true ∧ ∃ v, r.height = some v ∧ ¬ ((w 8).toNat ≤ v.toNat ∧ v.toNat ≤ (w 9).toNat))) ∧
    (hasCause .crimpDiameter (bandCauses s r) = true ↔ hasCause .crimpDiameter r.causes = true ∨
      (mask.getLsbD 2 = true ∧ ∃ v, r.diameter = some v ∧ ¬ ((w 10).toNat ≤ v.toNat ∧ v.toNat ≤ (w 11).toNat))) ∧
    (hasCause .chargeTime (bandCauses s r) = true ↔ hasCause .chargeTime r.causes = true ∨
      (mask.getLsbD 3 = true ∧ ∃ o c, r.captureOpen = some o ∧ r.captureClose = some c ∧
        ¬ ((w 12).toNat ≤ (c - o).toNat / 100 ∧ (c - o).toNat / 100 ≤ (w 13).toNat))) ∧
    (hasCause .overshoot (bandCauses s r) = true ↔ hasCause .overshoot r.causes = true ∨
      (mask.getLsbD 4 = true ∧ ∃ d, r.doseLoaded = some d ∧ (w 14).toNat < r.pulses - d)) ∧
    (hasCause .missingValue (bandCauses s r) = true ↔ hasCause .missingValue r.causes = true ∨
      (mask.getLsbD 0 = true ∧ r.gross = none) ∨ (mask.getLsbD 1 = true ∧ r.height = none) ∨
      (mask.getLsbD 2 = true ∧ r.diameter = none) ∨
      (mask.getLsbD 3 = true ∧ (r.captureOpen = none ∨ r.captureClose = none)) ∨
      (mask.getLsbD 4 = true ∧ r.doseLoaded = none)) ∧
    (∀ q, q ∉ [Cause.gasMass, .crimpHeight, .crimpDiameter, .chargeTime, .overshoot, .missingValue] →
      hasCause q (bandCauses s r) = hasCause q r.causes)

/-- The verdict at J (R13, R94, R95, R101): the LOADED record that arrives is FINAL with the causes its bands leave and its
verdict, which the gate slot holds; one tally rises; the in-use count falls, and at 0 the slot's entries outside any scope are
applied (R96, R114); a REJECT loses its request, which is re-armed. A can fed by the same frame is counted, and its request
bound, before the verdict (R11, R95). (A trip found by the same frame first adds TRIPPED, R148.) -/
def Obligations.VerdictAtGate : Prop :=
  ∀ (ws : List Word) (f : IndexFrame) (k : Fin 64) (s : State), classify ws = .index f → f.advance = .forward →
    s.bypassed = false → s.Joined → (s.record k).state = .loaded → s.position k + 1 = s.stationJ →
    ∃ t lead held causes v fed rs samples, exec (.indexFrame ws) s = .next t ∧
      t.lp.transit = s.lp.transit ++ [.accepted lead] ∧
      (held = (s.record k).causes ∨ (held = addCause .tripped (s.record k).causes ∧ t.nc.mode = .trip)) ∧
      causes = bandCauses s { s.record k with causes := held } ∧
      v = (if causes ≠ 0 then Verdict.reject else if (s.record k).sample.isSome = true then .sample else .pass) ∧
      t.record k = { s.record k with
        state := .final
        causes := causes
        verdict := some v
        sample := if v = .reject then none else (s.record k).sample } ∧
      (lead.getD 4 0).toNat / 16 = (match v with | .pass => 1 | .reject => 2 | .sample => 3) ∧
      (∀ j : Fin 8,
        (t.vu.tallies[j]).passed = (s.vu.tallies[j]).passed + (if v = .pass ∧ j = (s.record k).recipe then 1 else 0) ∧
        (t.vu.tallies[j]).rejected = (s.vu.tallies[j]).rejected + (if v = .reject ∧ j = (s.record k).recipe then 1 else 0) ∧
        (t.vu.tallies[j]).sampled = (s.vu.tallies[j]).sampled + (if v = .sample ∧ j = (s.record k).recipe then 1 else 0) ∧
        (t.vu.tallies[j]).backedOut = (s.vu.tallies[j]).backedOut) ∧
      (s.nc.mode ≠ .run → (lead.getD 4 0).getLsbD 0 = false) ∧ fed = t.record (s.slotAt 63) ∧
      rs = (if (lead.getD 4 0).getLsbD 0 = true
        then { s.rs with inUse := s.rs.inUse.set fed.recipe (s.inUse fed.recipe + 1) } else s.rs) ∧
      samples = (if (lead.getD 4 0).getLsbD 0 = true
        then s.vu.samples.eraseP (fun q => q.kind.isFor fed.recipe fed.predicted) else s.vu.samples) ∧
      t.rs = rs.lowered (s.record k).recipe ∧
      (v ≠ .reject ∨ (s.record k).sample = none → t.vu.samples = samples) ∧
      (v = .reject → ∀ q, (s.record k).sample = some q →
        (samples.length < 4 → t.vu.samples = q :: samples) ∧
        (4 ≤ samples.length → t.vu.samples = samples ∧ hasAlert .sampleLost t.nc.alerts = true))

/-! ### REPORT frames -/

/-- REPORT_FRAME (R131, R132): the vent flag, then each report in list order, each on the state the one before left, and the
frame waits for its command area with its own words before it. -/
def Obligations.ReportsTakenInOrder : Prop :=
  ∀ (ws : List Word) (f : ReportFrame) (u s : State), classify ws = .report f → s.bypassed = false →
    u = { s with lp.gapTimer := .running s.clock } →
    exec (.reportFrame ws) s = .next { f.reports.foldl takeReport (if f.vent = true then requestTrip .vent u else u) with
      lp.transit := s.lp.transit ++ [.accepted (ws.take (4 * f.reports.length + 3))] }

/-- A CLAMPED event for an ENGAGED head (R43, R56, R57, R64, R65, R66): the first-kept capture, then CLAMPED, and the opening
when the record stands from G to C − 1. With 48 commands queued the OPEN is not added, and the trip entry with cause QUEUE_FULL
is made on the CHARGING head (R136, R49). -/
def Obligations.ClampedEventOpens : Prop :=
  ∀ (h : Fin 24) (l : Link) (w lag : Word) (s : State), w.toNat = h.val → s.Joined → (s.head h).bound = some l →
    (s.head h).state = .engaged → ∀ r, r = { s.record l.slot with
      captureClamp := some ((s.record l.slot).captureClamp.getD (s.clock - lag.setWidth 32)) } →
    (¬ (s.stationG ≤ s.position l.slot ∧ s.position l.slot < s.stationC) →
      takeReport s (.event w (some .clamped) lag) = { s with
        tu.ring := s.tu.ring.set l.slot r
        hu.heads := s.hu.heads.set h { s.head h with state := .clamped } }) ∧
    (s.stationG ≤ s.position l.slot → s.position l.slot < s.stationC → s.lp.queue.length < 48 →
      takeReport s (.event w (some .clamped) lag) = { s with
        tu.ring := s.tu.ring.set l.slot { r with
          doseLoaded := some (trimmedDose s r), causes := addCauseIf (trimFactor s r).2 r.causes }
        hu.heads := s.hu.heads.set h { s.head h with state := .charging, doseCounter := trimmedDose s r }
        lp.queue := s.lp.queue ++ [⟨h, .openGas, 0⟩] }) ∧
    (s.stationG ≤ s.position l.slot → s.position l.slot < s.stationC → 48 ≤ s.lp.queue.length →
      State.TripEntryTo .queueFull { s with
        tu.ring := s.tu.ring.set l.slot { r with
          doseLoaded := some (trimmedDose s r), causes := addCauseIf (trimFactor s r).2 r.causes }
        hu.heads := s.hu.heads.set h { s.head h with state := .charging, doseCounter := trimmedDose s r } }
        (takeReport s (.event w (some .clamped) lag)))

/-- Every other captured event (R56, R57, R80): the first of its kind is kept in the bound record, or in the LOADED trailing
record of an unbound head; BOTTOM moves CRIMPING to CRIMPED; with no target STRAY_EVENT is raised. -/
def Obligations.EventsCaptured : Prop :=
  ∀ (h : Fin 24) (w lag : Word) (k : EventKind) (s : State), w.toNat = h.val → s.Joined → k ≠ .fault →
    ¬ (k = .clamped ∧ (s.head h).state = .engaged) →
    (∀ l, (s.head h).bound = some l ∨ ((s.head h).bound = none ∧ (s.head h).trailing = some l ∧
        (s.record l.slot).state = .loaded ∧ (s.record l.slot).serial = l.serial) →
      takeReport s (.event w (some k) lag) = { s with
        tu.ring := s.tu.ring.set l.slot { s.record l.slot with
          captureClamp := if k = .clamped then some ((s.record l.slot).captureClamp.getD (s.clock - lag.setWidth 32))
            else (s.record l.slot).captureClamp
          captureOpen := if k = .opened then some ((s.record l.slot).captureOpen.getD (s.clock - lag.setWidth 32))
            else (s.record l.slot).captureOpen
          captureClose := if k = .closed then some ((s.record l.slot).captureClose.getD (s.clock - lag.setWidth 32))
            else (s.record l.slot).captureClose
          captureBottom := if k = .bottom then some ((s.record l.slot).captureBottom.getD (s.clock - lag.setWidth 32))
            else (s.record l.slot).captureBottom }
        hu.heads := s.hu.heads.set h { s.head h with
          state := if k = .bottom ∧ (s.head h).state = .crimping then .crimped else (s.head h).state } }) ∧
    ((s.head h).bound = none → (∀ l, (s.head h).trailing = some l →
        ¬ ((s.record l.slot).state = .loaded ∧ (s.record l.slot).serial = l.serial)) →
      takeReport s (.event w (some k) lag) = { s with nc.alerts := addAlert .strayEvent s.nc.alerts })

/-- A FAULT event (R50): HEAD_FAULT is raised; a bound record takes HEAD_FAULT and is unbound, and ABORT is queued in place of
the head's other commands; the head is FAULTED with its flag kept. With 48 commands of other heads queued the ABORT is not
added, and the trip entry with cause QUEUE_FULL is made on the FAULTED head (R136, R49; log entry 17). -/
def Obligations.FaultTakesHeadOut : Prop :=
  ∀ (h : Fin 24) (w lag : Word) (s : State), w.toNat = h.val → s.Joined →
    ((s.head h).bound = none → takeReport s (.event w (some .fault) lag) = { s with
      nc.alerts := addAlert .headFault s.nc.alerts
      hu.heads := s.hu.heads.set h { s.head h with state := .faulted, timer := none } }) ∧
    (∀ l, (s.head h).bound = some l → (s.lp.queue.filter (fun c => c.head != h)).length < 48 →
      takeReport s (.event w (some .fault) lag) = { s with
        nc.alerts := addAlert .headFault s.nc.alerts
        tu.ring := s.tu.ring.set l.slot { s.record l.slot with
          bound := false, causes := addCause .headFault (s.record l.slot).causes }
        hu.heads := s.hu.heads.set h { s.head h with state := .faulted, bound := none, trailing := some l, timer := none }
        lp.queue := s.lp.queue.filter (fun c => c.head != h) ++ [⟨h, .abort, 0⟩] }) ∧
    (∀ l, (s.head h).bound = some l → 48 ≤ (s.lp.queue.filter (fun c => c.head != h)).length →
      State.TripEntryTo .queueFull { s with
        nc.alerts := addAlert .headFault s.nc.alerts
        tu.ring := s.tu.ring.set l.slot { s.record l.slot with
          bound := false, causes := addCause .headFault (s.record l.slot).causes }
        hu.heads := s.hu.heads.set h { s.head h with
          state := .faulted, bound := none, trailing := some l, timer := none } }
        (takeReport s (.event w (some .fault) lag)))

/-- A FLOW report (R70): its pulses go to the bound record, or to the LOADED trailing record, stopping at 65535; a CHARGING
head counts down, and at 0 or below its charge ends with CLOSE, which removes a queued OPEN; with no record STRAY_FLOW. With 48
commands left after the removal the CLOSE is not added, and the trip entry with cause QUEUE_FULL is made on the SETTLING head
(R136, R49). -/
def Obligations.FlowCountsPulses : Prop :=
  ∀ (h : Fin 24) (w : Word) (n : BitVec 8) (s : State), w.toNat = h.val → s.QueueLegal →
    (∀ l r, (s.head h).bound = some l ∨ ((s.head h).bound = none ∧ (s.head h).trailing = some l ∧
        (s.record l.slot).state = .loaded ∧ (s.record l.slot).serial = l.serial) →
      r = { s.record l.slot with pulses := min ((s.record l.slot).pulses + n.toNat) 65535 } →
      ((s.head h).state ≠ .charging → takeReport s (.flow w n) = { s with tu.ring := s.tu.ring.set l.slot r }) ∧
      ((s.head h).state = .charging → 0 < (s.head h).doseCounter - n.toNat → takeReport s (.flow w n) = { s with
        tu.ring := s.tu.ring.set l.slot r
        hu.heads := s.hu.heads.set h { s.head h with doseCounter := (s.head h).doseCounter - n.toNat } }) ∧
      ((s.head h).state = .charging → (s.head h).doseCounter - n.toNat ≤ 0 →
        (s.lp.queue.filter (fun c => !(c.head == h && c.kind == .openGas))).length < 48 →
        takeReport s (.flow w n) = { s with
          tu.ring := s.tu.ring.set l.slot r
          hu.heads := s.hu.heads.set h { s.head h with
            doseCounter := (s.head h).doseCounter - n.toNat, state := .settling, timer := none }
          lp.queue := s.lp.queue.filter (fun c => !(c.head == h && c.kind == .openGas)) ++ [⟨h, .closeGas, 0⟩] }) ∧
      ((s.head h).state = .charging → (s.head h).doseCounter - n.toNat ≤ 0 →
        48 ≤ (s.lp.queue.filter (fun c => !(c.head == h && c.kind == .openGas))).length →
        State.TripEntryTo .queueFull { s with
          tu.ring := s.tu.ring.set l.slot r
          hu.heads := s.hu.heads.set h { s.head h with
            doseCounter := (s.head h).doseCounter - n.toNat, state := .settling, timer := none } }
          (takeReport s (.flow w n)))) ∧
    ((s.head h).bound = none → (∀ l, (s.head h).trailing = some l →
        ¬ ((s.record l.slot).state = .loaded ∧ (s.record l.slot).serial = l.serial)) →
      takeReport s (.flow w n) = { s with nc.alerts := addAlert .strayFlow s.nc.alerts })

/-- An INFEED report replaces the candidate, its temperature present only when its flag is set and it lies from −400 to 600
(R23). A MEASURE report (R82, R83, R84): stored in the LOADED record its tag names when ok is set; late for the FINAL record it
names; stale otherwise. Beside it, EVENT and FLOW reports that name no head or kind are strays (R56, R70). -/
def Obligations.InfeedAndMeasureReports : Prop :=
  (∀ (codePresent temperaturePresent : Bool) (product : Fin 16) (tare temperature : Word) (s : State),
    takeReport s (.infeed codePresent product tare temperaturePresent temperature) =
      { s with lp.candidate := some {
          code := if codePresent = true then some product else none
          tare := tare
          temperature := if temperaturePresent = true ∧ -400 ≤ temperature.toInt ∧ temperature.toInt ≤ 600
            then some temperature.toInt else none } }) ∧
  ∀ (k : MeasureKind) (ok : Bool) (slot serial v : Word) (s : State),
    (∀ p : Fin 64, slot.toNat = p.val → (s.record p).state = .loaded → (s.record p).serial = serial →
      takeReport s (.measure (some k) ok slot serial v) = if ok = true then { s with tu.ring := s.tu.ring.set p { s.record p with
          height := if k = .height then some v else (s.record p).height
          diameter := if k = .diameter then some v else (s.record p).diameter
          gross := if k = .gross then some v else (s.record p).gross } } else s) ∧
    (∀ p : Fin 64, slot.toNat = p.val → (s.record p).state = .final → (s.record p).serial = serial →
      takeReport s (.measure (some k) ok slot serial v) = { s with nc.alerts := addAlert .lateReport s.nc.alerts }) ∧
    (63 < slot.toNat ∨ (∃ p : Fin 64, slot.toNat = p.val ∧
        ((s.record p).state = .empty ∨ (s.record p).serial ≠ serial)) →
      takeReport s (.measure (some k) ok slot serial v) = { s with nc.alerts := addAlert .staleReport s.nc.alerts }) ∧
    takeReport s (.measure none ok slot serial v) = { s with nc.alerts := addAlert .staleReport s.nc.alerts } ∧
    (∀ (w lag : Word) (e : Option EventKind), 23 < w.toNat ∨ e = none →
      takeReport s (.event w e lag) = { s with nc.alerts := addAlert .strayEvent s.nc.alerts }) ∧
    (∀ (w : Word) (n : BitVec 8), 23 < w.toNat →
      takeReport s (.flow w n) = { s with nc.alerts := addAlert .strayFlow s.nc.alerts })

/-! ### Dosing -/

/-- The trim factor, its cause and the dose (R64, R65). -/
def Obligations.DoseIsTrimmed : Prop :=
  ∀ (s : State) (r : Record),
    (s.recipeWord r.recipe 2 = 0 ∨ s.hu.trimRows = 0 → trimFactor s r = (1024, none)) ∧
    (s.recipeWord r.recipe 2 ≠ 0 → s.hu.trimRows ≠ 0 → r.temperature = none →
      trimFactor s r = (1024, some .missingValue)) ∧
    (∀ (x : Int) (i : Fin 16), s.recipeWord r.recipe 2 ≠ 0 → r.temperature = some x → i.val < s.hu.trimRows.toNat →
      (s.hu.trim[i]).bound.toInt ≤ x →
      (∀ j : Fin 16, i < j → j.val < s.hu.trimRows.toNat → x < (s.hu.trim[j]).bound.toInt) →
      trimFactor s r = ((s.hu.trim[i]).factor.toNat, none)) ∧
    (∀ x : Int, s.recipeWord r.recipe 2 ≠ 0 → s.hu.trimRows ≠ 0 → r.temperature = some x →
      (∀ j : Fin 16, j.val < s.hu.trimRows.toNat → x < (s.hu.trim[j]).bound.toInt) →
      trimFactor s r = ((s.hu.trim[(0 : Fin 16)]).factor.toNat, some .tempRange)) ∧
    trimmedDose s r = (let n := (s.recipeWord r.recipe 1).toNat * (trimFactor s r).1 / 1024; if n = 0 then 1 else n)

/-- CHARGE_LIMIT_EXPIRY (R68, R61): the lowest-numbered head whose deadline is reached takes OVERTIME on its record, CLOSE is
queued, its timer disarmed, and it is SETTLING. With 48 commands left after the removal of its OPEN the CLOSE is not added, and
the trip entry with cause QUEUE_FULL is made on that state (R136, R49). With no deadline reached the command changes nothing
(log entries 8, 9). -/
def Obligations.ChargeLimitExpires : Prop :=
  ∀ s : State, s.QueueLegal →
    (∀ (h : Fin 24) (l : Link) (d : Deadline), (s.head h).timer = some d → d.ticks ≤ (s.clock - d.since).toNat →
      (∀ h', h' < h → ∀ d', (s.head h').timer = some d' → (s.clock - d'.since).toNat < d'.ticks) →
      (s.head h).bound = some l → ∀ u, u = { s with
        tu.ring := s.tu.ring.set l.slot { s.record l.slot with causes := addCause .overtime (s.record l.slot).causes }
        hu.heads := s.hu.heads.set h { s.head h with state := .settling, timer := none }
        lp.queue := s.lp.queue.filter (fun c => !(c.head == h && c.kind == .openGas)) } →
      (u.lp.queue.length < 48 →
        exec .chargeLimitExpiry s = .next { u with lp.queue := u.lp.queue ++ [⟨h, .closeGas, 0⟩] }) ∧
      (48 ≤ u.lp.queue.length → ∃ t, exec .chargeLimitExpiry s = .next t ∧ State.TripEntryTo .queueFull u t)) ∧
    ((∀ h d, (s.head h).timer = some d → (s.clock - d.since).toNat < d.ticks) → exec .chargeLimitExpiry s = .next s)

/-! ### Requests: the wake, BUSY, and SERVICE frames -/

/-- SYNC (R141, R142): in WAIT_SYNC the wake count rises to the third SYNC, which brings the node to STANDBY, starts the frame
gap timer and applies the Park List; in the other modes DONE with 0. -/
def Obligations.SyncWakesNode : Prop :=
  ∀ (tag : BitVec 8) (s : State), s.linkHeld = false →
    (s.nc.mode = .waitSync → s.nc.wakeCount < 2 → exec (.sync tag) s = .next { s with
      lp.transit := s.lp.transit ++
        [s.replyFrame 1 tag { status := .syncing, result0 := BitVec.ofNat 16 (s.nc.wakeCount + 1) }]
      nc.wakeCount := s.nc.wakeCount + 1 }) ∧
    (s.nc.mode = .waitSync → s.nc.wakeCount = 2 → exec (.sync tag) s = .next { s with
      lp := s.replied 1 tag { status := .done, result0 := 3 }
      nc.wakeCount := 0
      nc.mode := .standby
      rs := s.rs.applyParked (fun _ => true) }) ∧
    (s.ready → exec (.sync tag) s = .next (s.answered 1 tag { status := .done }))

/-- Requests turned away (R154, R141, R160): in WAIT_SYNC every request but SYNC is answered NOT_AWAKE and sets the wake count
to 0; while a busy operation runs every request but STATUS is answered BUSY; nothing else changes. -/
def Obligations.RequestsTurnedAway : Prop :=
  ∀ (c : Instr) (code : Word) (tag : BitVec 8) (s : State), requestOf c = some (code, tag) →
    (code ≠ 1 → s.nc.mode = .waitSync → s.linkHeld = false → exec c s = .next { s with
      lp.transit := s.lp.transit ++ [s.replyFrame code tag { status := .notAwake }], nc.wakeCount := 0 }) ∧
    (code ≠ 2 → s.bypassed = false → s.nc.busy ≠ .idle → exec c s = .next (s.answered code tag { status := .busy }))

/-- SERVICE_FRAME (R126, R154, R166): an accepted frame addressed to the node does what the request row of its code does; a code
of 0 or above 19 is answered BAD_REQUEST, and a MODE operand above 2 BAD_VALUE. Any code but SYNC, known or unknown, is answered
NOT_AWAKE in WAIT_SYNC and sets the wake count to 0 (R141), and any code but STATUS is answered BUSY while a busy operation
runs. (The form of the rows is log entry 2.) -/
def Obligations.ServiceFrameTakesRequest : Prop :=
  ∀ (f : ServiceFrame) (s : State), f.destination = s.lp.nodeAddress.setWidth 16 →
    (∀ c, c ∈ [Instr.point f.tag f.operand0 f.operand1 f.operand2, .write f.tag f.operand0,
        .headEnable f.tag f.operand0 f.operand1 f.operand2, .headDisable f.tag f.operand0 f.operand1 f.operand2,
        .headStop f.tag f.operand0 f.operand1 f.operand2, .sample f.tag f.operand0 f.operand1 f.operand2,
        .clearAlerts f.tag f.operand0, .clearWindow f.tag f.operand0, .sync f.tag, .status f.tag, .read f.tag,
        .scopeOpen f.tag, .scopeClose f.tag, .scopeAbandon f.tag, .unpark f.tag, .clearTrip f.tag, .tallyClear f.tag,
        .resetNode f.tag] →
      requestOf c = some (f.code, f.tag) → s.linkHeld = false → exec (.serviceFrame (serviceWords f)) s = exec c s) ∧
    (f.code = 6 → s.linkHeld = false →
      (f.operand0 = 0 → exec (.serviceFrame (serviceWords f)) s = exec (.modeStandby f.tag) s) ∧
      (f.operand0 = 1 → exec (.serviceFrame (serviceWords f)) s = exec (.modeRun f.tag) s) ∧
      (f.operand0 = 2 → exec (.serviceFrame (serviceWords f)) s = exec (.modeDrain f.tag) s)) ∧
    (s.ready → f.code = 0 ∨ 19 < f.code.toNat → exec (.serviceFrame (serviceWords f)) s =
      .next (s.answered f.code f.tag { status := .badRequest })) ∧
    (s.ready → f.code = 6 → 2 < f.operand0.toNat → exec (.serviceFrame (serviceWords f)) s =
      .next (s.answered f.code f.tag { status := .badValue, result0 := BitVec.ofNat 16 s.nc.mode.code })) ∧
    (f.code ≠ 1 → s.nc.mode = .waitSync → s.linkHeld = false → exec (.serviceFrame (serviceWords f)) s = .next { s with
      lp.transit := s.lp.transit ++ [s.replyFrame f.code f.tag { status := .notAwake }], nc.wakeCount := 0 }) ∧
    (f.code ≠ 2 → s.bypassed = false → s.nc.busy ≠ .idle →
      exec (.serviceFrame (serviceWords f)) s = .next (s.answered f.code f.tag { status := .busy }))

/-! ### STATUS, POINT, READ, WRITE -/

/-- STATUS (R159): in every mode out of bypass, while a busy operation runs too, DONE with the four words of R166, and no state
changed but by the frame that carries it. The bits of a pointer word (R166): the index, the window and the direction. -/
def Obligations.StatusReadsState : Prop :=
  (∀ (tag : BitVec 8) (s : State), s.bypassed = false →
    exec (.status tag) s = .next (s.answered 2 tag
      { status := .done
        result0 := BitVec.ofNat 16 (s.nc.mode.code + 16 * s.nc.busy.code)
        result1 := BitVec.ofNat 16 ((if s.nc.stale = true then 1 else 0) + 16 * tripCauseCode s.nc.tripCause)
        result2 := s.nc.alerts.setWidth 16
        result3 := pointerWord s.nc.pointer s.nc.direction })) ∧
  ∀ (p : Pointer) (d : Direction), p.index < 2048 →
    ((pointerWord p d).extractLsb' 0 11).toNat = p.index ∧ ((pointerWord p d).extractLsb' 11 4).toNat = p.window.val ∧
      (pointerWord p d).getLsbD 15 = (d == .down)

/-- POINT (R156): the checks in order, and the pointer, direction, latch, stale flag and clock hold that a good one sets. -/
def Obligations.PointSetsPointer : Prop :=
  ∀ (tag : BitVec 8) (w i d : Word) (s : State), s.ready →
    (9 < w.toNat → exec (.point tag w i d) s = .next (s.answered 3 tag { status := .badWindow })) ∧
    (∀ win : Fin 10, w.toNat = win.val →
      (windowLength win ≤ i.toNat →
        exec (.point tag w i d) s = .next (s.answered 3 tag { status := .badIndex })) ∧
      (i.toNat < windowLength win → 1 < d.toNat →
        exec (.point tag w i d) s = .next (s.answered 3 tag { status := .badValue })) ∧
      (∀ dir : Direction, i.toNat < windowLength win → d.toNat = dir.code →
        exec (.point tag w i d) s = .next { s with
          lp := s.replied 3 tag { status := .done, result0 := s.windowWord win i.toNat }
          nc := s.pointed ⟨win, i.toNat⟩ dir }))

/-- READ (R157): the latch, the stale flag and the pointer after the advance; then the latch filled from there. A WRITE
advances the pointer to the same place. -/
def Obligations.ReadAdvances : Prop :=
  ∀ (tag : BitVec 8) (s : State) (p : Pointer), s.ready → s.nc.pointer.index < windowLength s.nc.pointer.window →
    p.window = s.nc.pointer.window →
    (s.nc.direction = .up → p.index = (s.nc.pointer.index + 1) % windowLength p.window) →
    (s.nc.direction = .down → p.index = (s.nc.pointer.index + windowLength p.window - 1) % windowLength p.window) →
    exec (.read tag) s = .next { s with
      lp := s.replied 4 tag
        { status := .done
          result0 := s.nc.latch
          result1 := if s.nc.stale = true then 1 else 0
          result2 := pointerWord p s.nc.direction }
      nc := s.pointed p s.nc.direction } ∧ s.nextPointer = p

/-- What the windows show (R155, R168, R62, R106, R1), word by word: the ten lengths, and every word of NODE, STATIONS, TRIM,
RECIPE, INUSE, TALLY, HEADS, RING, PARK and SAMPLE. An optional field that is absent shows 0 or its "none", and a place beyond
a list's length shows 0 (R163). An ANY request's argument and a closed scope's mark show 0 (log entries 13, 14). -/
def Obligations.WindowsShowState : Prop :=
  (List.ofFn windowLength = [15, 7, 32, 128, 8, 80, 72, 1536, 34, 9]) ∧ ∀ s : State,
    (s.windowWord 0 0 = BitVec.ofNat 16 (match s.nc.mode with
        | .waitSync => 0 | .standby => 0 | .run => 1 | .drain => 2 | .trip => 3) ∧
      s.windowWord 0 1 = BitVec.ofNat 16 (match s.nc.busy with
        | .idle => 0 | .clearWindow _ _ => 1 | .resetNode _ => 2) ∧
      s.windowWord 0 2 = s.nc.alerts.setWidth 16 ∧
      s.windowWord 0 3 = BitVec.ofNat 16 (match s.nc.tripCause with
        | none => 0 | some .vent => 1 | some .linkGap => 2 | some .trackLost => 3 | some .queueFull => 4) ∧
      s.windowWord 0 4 = s.lp.gapLimit ∧ s.windowWord 0 5 = s.hu.trimRows ∧
      s.windowWord 0 6 = s.lp.nodeAddress.setWidth 16 ∧ s.windowWord 0 7 = s.clock.extractLsb' 16 16 ∧
      s.windowWord 0 8 = s.nc.clockHold ∧ s.windowWord 0 9 = s.lp.lastCount ∧
      s.windowWord 0 10 = BitVec.ofNat 16 s.lp.lastPhase.val ∧ s.windowWord 0 11 = BitVec.ofNat 16 s.tu.origin.val ∧
      s.windowWord 0 12 = BitVec.ofNat 16 s.lp.queue.length ∧ s.windowWord 0 13 = s.tu.nextSerial ∧
      s.windowWord 0 14 = BitVec.ofNat 16 (match s.lp.candidate with
        | none => 0
        | some c => 32768 + (match c.code with | none => 0 | some p => 256 + p.val))) ∧
    (∀ i : Fin 7, s.windowWord 1 i.val = s.tu.stations[i]) ∧
    (∀ r : Fin 16, s.windowWord 2 (2 * r.val) = (s.hu.trim[r]).bound ∧
      s.windowWord 2 (2 * r.val + 1) = (s.hu.trim[r]).factor) ∧
    (∀ (k : Fin 8) (w : Fin 16), s.windowWord 3 (16 * k.val + w.val) = s.recipeWord k w) ∧
    (∀ k : Fin 8, s.windowWord 4 k.val = BitVec.ofNat 16 (s.inUse k)) ∧
    (∀ (k : Fin 8) (i : Fin 5) (x : BitVec 32), [(s.vu.tallies[k]).admitted, (s.vu.tallies[k]).passed,
        (s.vu.tallies[k]).rejected, (s.vu.tallies[k]).sampled, (s.vu.tallies[k]).backedOut][i.val]? = some x →
      s.windowWord 5 (10 * k.val + 2 * i.val) = x.extractLsb' 16 16 ∧
      s.windowWord 5 (10 * k.val + 2 * i.val + 1) = x.extractLsb' 0 16) ∧
    (∀ (h : Fin 24) (c : HeadContext), c = s.head h →
      s.windowWord 6 (3 * h.val) = BitVec.ofNat 16 c.state.code ∧
      s.windowWord 6 (3 * h.val + 1) = BitVec.ofNat 16 (match c.bound with | none => 65535 | some l => l.slot.val) ∧
      s.windowWord 6 (3 * h.val + 2) = BitVec.ofNat 16
        ((match c.trailing with | none => 127 | some l => l.slot.val) + if c.enabled = true then 32768 else 0)) ∧
    (∀ (k : Fin 64) (r : Record) (w : Nat → Word), r = s.record k → (∀ i, w i = s.windowWord 7 (24 * k.val + i)) →
      ((w 0).extractLsb' 0 2 = (match r.state with | .empty => 0 | .loaded => 1 | .final => 2) ∧
        (w 0).extractLsb' 2 2 = 0 ∧
        (w 0).extractLsb' 4 2 = (match r.verdict with
          | none => 0 | some .pass => 1 | some .reject => 2 | some .sample => 3) ∧
        (w 0).extractLsb' 6 2 = 0 ∧ (w 0).getLsbD 8 = r.engaged ∧ (w 0).getLsbD 9 = r.bound ∧
        (w 0).getLsbD 10 = r.released ∧ (w 0).extractLsb' 11 5 = 0) ∧
      w 1 = r.serial ∧ w 2 = BitVec.ofNat 16 (r.product.val + 16 * r.recipe.val + 256 * r.predicted.val) ∧
      w 3 = BitVec.ofNat 16 (match r.head with | none => 0 | some h => h.val) ∧ w 4 = r.tare ∧
      w 5 = BitVec.ofInt 16 (r.temperature.getD 0) ∧ w 6 = BitVec.ofNat 16 (r.doseLoaded.getD 0) ∧
      w 7 = BitVec.ofNat 16 r.pulses ∧
      w 8 = (r.captureClamp.getD 0).extractLsb' 16 16 ∧ w 9 = (r.captureClamp.getD 0).extractLsb' 0 16 ∧
      w 10 = (r.captureOpen.getD 0).extractLsb' 16 16 ∧ w 11 = (r.captureOpen.getD 0).extractLsb' 0 16 ∧
      w 12 = (r.captureClose.getD 0).extractLsb' 16 16 ∧ w 13 = (r.captureClose.getD 0).extractLsb' 0 16 ∧
      w 14 = (r.captureBottom.getD 0).extractLsb' 16 16 ∧ w 15 = (r.captureBottom.getD 0).extractLsb' 0 16 ∧
      w 16 = r.height.getD 0 ∧ w 17 = r.diameter.getD 0 ∧ w 18 = r.gross.getD 0 ∧
      w 19 = r.causes.extractLsb' 0 16 ∧ w 20 = (r.causes.extractLsb' 16 2).setWidth 16 ∧
      w 21 = (match r.sample with | none => 0 | some q => q.tag.setWidth 16) ∧
      (∀ i : Fin 16, (w 22).getLsbD i.val = [r.head.isSome, r.temperature.isSome, r.doseLoaded.isSome,
        r.captureClamp.isSome, r.captureOpen.isSome, r.captureClose.isSome, r.captureBottom.isSome, r.height.isSome,
        r.diameter.isSome, r.gross.isSome, r.sample.isSome].getD i.val false) ∧
      w 23 = 0) ∧
    (s.windowWord 8 0 = BitVec.ofNat 16 s.rs.parkList.length ∧
      s.windowWord 8 1 = BitVec.ofNat 16 (match s.rs.scope with | none => 0 | some m => 32768 + m) ∧
      ∀ i : Fin 16,
        (∀ e : ParkEntry, s.rs.parkList[i.val]? = some e →
          s.windowWord 8 (2 + 2 * i.val) = BitVec.ofNat 16 (32768 + 256 * e.slot.val + e.word.val) ∧
          s.windowWord 8 (3 + 2 * i.val) = e.value) ∧
        (s.rs.parkList[i.val]? = none →
          s.windowWord 8 (2 + 2 * i.val) = 0 ∧ s.windowWord 8 (3 + 2 * i.val) = 0)) ∧
    s.windowWord 9 0 = BitVec.ofNat 16 s.vu.samples.length ∧
    ∀ i : Fin 4,
      (∀ q : SampleRequest, s.vu.samples[i.val]? = some q →
        s.windowWord 9 (1 + 2 * i.val) = BitVec.ofNat 16 (32768 + (match q.kind with
          | .any => 0 | .slot k => 256 * k.val + 1 | .head h => 256 * h.val + 2)) ∧
        s.windowWord 9 (2 + 2 * i.val) = q.tag.setWidth 16) ∧
      (s.vu.samples[i.val]? = none → s.windowWord 9 (1 + 2 * i.val) = 0 ∧ s.windowWord 9 (2 + 2 * i.val) = 0)

/-- The codes and bit places of R167: statuses, head states, causes and alerts; and the codes of the modes, the trip causes, the
busy operations and the directions (R165, R166). -/
def Obligations.CodesAsListed : Prop :=
  [Status.done, .accepted, .parked, .syncing, .busy, .notAwake, .refusedMode, .badRequest, .badWindow, .badIndex, .badValue,
    .readOnly, .parkFull, .parkEmpty, .underMark, .noScope, .scopeOpen, .notEmpty, .badStations, .listFull].map Status.code =
      (List.range 20).map (BitVec.ofNat 16) ∧
  [HeadState.idle, .engaged, .clamped, .charging, .settling, .crimping, .crimped, .aborting, .disabled, .faulted].map
    HeadState.code = List.range 10 ∧
  (∀ (i : Nat) (c : Cause), [Cause.noHead, .noClamp, .shortGas, .overtime, .noBottom, .headFault, .headStopped, .jogBack,
      .frameLoss, .tripped, .tempRange, .missingValue, .gasMass, .crimpHeight, .crimpDiameter, .chargeTime, .overshoot,
      .noCrimp][i]? = some c → ∀ x : CauseSet, (hasCause c x = x.getLsbD i) ∧ addCause c x = x ||| BitVec.twoPow 18 i) ∧
  (∀ (i : Nat) (a : AlertKind), [AlertKind.uncodedCan, .slotEmpty, .parkFull, .sampleLost, .frameDamaged, .linkGap,
      .trackLost, .headFault, .strayFlow, .strayEvent, .staleReport, .lateReport, .queueFull, .vent, .trip][i]? = some a →
    a.place = i ∧ ∀ x : AlertSet, hasAlert a x = x.getLsbD i ∧ addAlert a x = x ||| BitVec.twoPow 15 i) ∧
  [Mode.waitSync, .standby, .run, .drain, .trip].map Mode.code = [0, 0, 1, 2, 3] ∧
  [none, some TripCause.vent, some .linkGap, some .trackLost, some .queueFull].map tripCauseCode = [0, 1, 2, 3, 4] ∧
  (BusyOp.idle.code = 0 ∧ ∀ (x : ClearTarget) (c : Clock), (BusyOp.clearWindow x c).code = 1 ∧
    (BusyOp.resetNode c).code = 2) ∧
  [Direction.up, .down].map Direction.code = [0, 1]

/-- WRITE outside the recipe window (R158, R155, R2, R62, R63, R134): GAP_LIMIT, TRIM_ROWS, a STATIONS word in STANDBY, a BOUND
and a FACTOR are stored, the pointer advances, the latch keeps its copy and the stale flag is set; READ_ONLY, REFUSED_MODE and
BAD_VALUE change nothing. -/
def Obligations.WriteStoresOrRefuses : Prop :=
  ∀ (tag : BitVec 8) (v : Word) (s : State), s.ready → ∀ (yes no : Answer) (refused : Status → State),
    yes = { status := .done, result0 := pointerWord s.nextPointer s.nc.direction } →
    no = { status := .done, result0 := pointerWord s.nc.pointer s.nc.direction } →
    (∀ st, refused st = s.answered 5 tag { no with status := st }) →
    (s.nc.pointer = ⟨0, 4⟩ → 5 ≤ v.toNat → v.toNat ≤ 2000 →
      exec (.write tag v) s = .next { s with lp := { s.replied 5 tag yes with gapLimit := v }, nc := s.wrote }) ∧
    (s.nc.pointer = ⟨0, 4⟩ → ¬ (5 ≤ v.toNat ∧ v.toNat ≤ 2000) → exec (.write tag v) s = .next (refused .badValue)) ∧
    (s.nc.pointer = ⟨0, 5⟩ → v.toNat ≤ 16 →
      exec (.write tag v) s = .next { s.answered 5 tag yes with hu.trimRows := v, nc := s.wrote }) ∧
    (s.nc.pointer = ⟨0, 5⟩ → 16 < v.toNat → exec (.write tag v) s = .next (refused .badValue)) ∧
    (s.nc.pointer.window = 0 → s.nc.pointer.index ≠ 4 → s.nc.pointer.index ≠ 5 →
      exec (.write tag v) s = .next (refused .readOnly)) ∧
    (∀ i : Fin 7, s.nc.pointer = ⟨1, i.val⟩ → s.nc.mode = .standby → exec (.write tag v) s =
      .next { s.answered 5 tag yes with tu.stations := s.tu.stations.set i v, nc := s.wrote }) ∧
    (s.nc.pointer.window = 1 → s.nc.mode ≠ .standby → exec (.write tag v) s = .next (refused .refusedMode)) ∧
    (∀ r : Fin 16, s.nc.pointer = ⟨2, 2 * r.val⟩ → exec (.write tag v) s = .next
      { s.answered 5 tag yes with hu.trim := s.hu.trim.set r { s.hu.trim[r] with bound := v }, nc := s.wrote }) ∧
    (∀ r : Fin 16, s.nc.pointer = ⟨2, 2 * r.val + 1⟩ → 512 ≤ v.toNat → v.toNat ≤ 2047 → exec (.write tag v) s = .next
      { s.answered 5 tag yes with hu.trim := s.hu.trim.set r { s.hu.trim[r] with factor := v }, nc := s.wrote }) ∧
    (∀ r : Fin 16, s.nc.pointer = ⟨2, 2 * r.val + 1⟩ → ¬ (512 ≤ v.toNat ∧ v.toNat ≤ 2047) →
      exec (.write tag v) s = .next (refused .badValue)) ∧
    (4 ≤ s.nc.pointer.window.val → exec (.write tag v) s = .next (refused .readOnly))

/-- WRITE into the recipe window (R110): BAD_VALUE, the direct write, PARK_FULL with its alert, and PARKED, in this order. The
ranges of the words, and the place of word w of slot k (R106). -/
def Obligations.RecipeWriteOrParks : Prop :=
  (∀ (k : Fin 8) (w : Fin 16) (s : State), (recipeIndex k w).val = 16 * k.val + w.val ∧
    s.recipeWord k w = s.rs.words[recipeIndex k w]) ∧
  (∀ v : Word,
    (recipeRange 0 v.toNat = true ↔ v.toNat ≤ 1) ∧ (recipeRange 1 v.toNat = true ↔ 1 ≤ v.toNat ∧ v.toNat ≤ 20000) ∧
    (recipeRange 2 v.toNat = true ↔ v.toNat ≤ 1) ∧ (recipeRange 3 v.toNat = true ↔ 10 ≤ v.toNat ∧ v.toNat ≤ 5000) ∧
    (recipeRange 4 v.toNat = true ↔ 1 ≤ v.toNat ∧ v.toNat ≤ 8) ∧ (recipeRange 5 v.toNat = true ↔ v.toNat ≤ 31) ∧
    (∀ w : Fin 16, w = 6 ∨ w = 7 → (recipeRange w v.toNat = true ↔ v.toNat ≤ 10000)) ∧
    (∀ w : Fin 16, w ∈ [8, 9, 10, 11, 15] → recipeRange w v.toNat = true) ∧
    (∀ w : Fin 16, w = 12 ∨ w = 13 → (recipeRange w v.toNat = true ↔ v.toNat ≤ 5000)) ∧
    (recipeRange 14 v.toNat = true ↔ v.toNat ≤ 20000)) ∧
  ∀ (tag : BitVec 8) (v : Word) (k : Fin 8) (w : Fin 16) (s : State), s.ready →
    s.nc.pointer = ⟨3, 16 * k.val + w.val⟩ →
    (recipeRange w v.toNat = false → exec (.write tag v) s = .next { s with
      lp := s.replied 5 tag { status := .badValue, result0 := pointerWord s.nc.pointer s.nc.direction } }) ∧
    (recipeRange w v.toNat = true → s.rs.scope = none → s.inUse k = 0 → (∀ e ∈ s.rs.parkList, e.slot ≠ k) →
      exec (.write tag v) s = .next { s with
        lp := s.replied 5 tag { status := .done, result0 := pointerWord s.nextPointer s.nc.direction }
        nc := s.wrote
        rs.words := s.rs.words.set (recipeIndex k w) v }) ∧
    (recipeRange w v.toNat = true → s.rs.scope ≠ none ∨ s.inUse k ≠ 0 ∨ (∃ e ∈ s.rs.parkList, e.slot = k) →
      (16 ≤ s.rs.parkList.length → exec (.write tag v) s = .next { s with
        lp := s.replied 5 tag { status := .parkFull, result0 := pointerWord s.nc.pointer s.nc.direction }
        nc.alerts := addAlert .parkFull s.nc.alerts }) ∧
      (s.rs.parkList.length < 16 → exec (.write tag v) s = .next { s with
        lp := s.replied 5 tag { status := .parked, result0 := pointerWord s.nextPointer s.nc.direction }
        nc := s.wrote
        rs.parkList := s.rs.parkList ++ [⟨k, w, v⟩] }))

/-! ### MODE, CLEAR TRIP, RESET NODE, CLEAR WINDOW -/

/-- MODE RUN, DRAIN and STANDBY by the mode found, with the mode after in result word 0 (R143, R144); CLEAR TRIP (R150); and the
conditions of R3 that make the station table valid. -/
def Obligations.ModeChangesByRequest : Prop :=
  (∀ (tag : BitVec 8) (s : State), s.ready → ∀ after : Status → Mode → State,
    (∀ st m, after st m = { s.answered 6 tag { status := st, result0 := BitVec.ofNat 16 m.code } with nc.mode := m }) →
    (s.nc.mode = .standby → s.stationsValid = true → exec (.modeRun tag) s = .next (after .done .run)) ∧
    (s.nc.mode = .standby → s.stationsValid = false → exec (.modeRun tag) s = .next (after .badStations .standby)) ∧
    (s.nc.mode = .run ∨ s.nc.mode = .drain → exec (.modeRun tag) s = .next (after .done .run)) ∧
    (s.nc.mode = .trip → exec (.modeRun tag) s = .next (after .refusedMode .trip)) ∧
    (s.nc.mode = .run → exec (.modeDrain tag) s = .next (after .done .drain)) ∧
    (s.nc.mode ≠ .run → exec (.modeDrain tag) s = .next (after .refusedMode s.nc.mode)) ∧
    (s.nc.mode = .run ∨ s.nc.mode = .drain → s.nc.ringEmpty = true → exec (.modeStandby tag) s =
      .next { after .done .standby with rs := s.rs.applyParked (fun _ => true) }) ∧
    (s.nc.mode = .run ∨ s.nc.mode = .drain → s.nc.ringEmpty = false →
      exec (.modeStandby tag) s = .next (after .notEmpty s.nc.mode)) ∧
    (s.nc.mode = .standby → exec (.modeStandby tag) s = .next (after .done .standby)) ∧
    (s.nc.mode = .trip → exec (.modeStandby tag) s = .next (after .refusedMode .trip)) ∧
    (s.nc.mode = .trip → s.nc.ringEmpty = true → exec (.clearTrip tag) s = .next
      { s.answered 16 tag { status := .done } with
        nc := { s.nc with mode := .standby, tripCause := none }, rs := s.rs.applyParked (fun _ => true) }) ∧
    (s.nc.mode = .trip → s.nc.ringEmpty = false →
      exec (.clearTrip tag) s = .next (s.answered 16 tag { status := .notEmpty })) ∧
    (s.nc.mode ≠ .trip → exec (.clearTrip tag) s = .next (s.answered 16 tag { status := .refusedMode }))) ∧
  ∀ (E G C R K W J : Word) (s : State), s.tu.stations = #v[E, G, C, R, K, W, J] →
    (s.stationsValid = true ↔ 1 ≤ E.toNat ∧ E.toNat ≤ G.toNat ∧ G.toNat < C.toNat ∧ C.toNat < R.toNat ∧
      R.toNat < K.toNat ∧ K.toNat ≤ W.toNat ∧ W.toNat < J.toNat ∧ J.toNat ≤ 62 ∧ R.toNat - E.toNat ≤ 23)

/-- RESET NODE and CLEAR WINDOW (R151, R160, R161): each begins its busy operation with the clock value at its taking, or is
refused by mode or window. CLEAR_WINDOW_COMPLETION, at 1000 ticks, clears the named window and no other, and the operation ends.
A completion placed before its tick, or with no such operation, changes nothing, WARM_RESET_COMPLETION too (log entry 8). -/
def Obligations.BusyOperations : Prop :=
  (∀ (tag : BitVec 8) (w : Word) (s : State), s.ready →
    (s.nc.mode = .standby ∨ s.nc.mode = .trip → exec (.resetNode tag) s = .next { s with
      lp := s.replied 19 tag { status := .accepted }, nc.busy := .resetNode s.clock }) ∧
    (s.nc.mode = .run ∨ s.nc.mode = .drain →
      exec (.resetNode tag) s = .next (s.answered 19 tag { status := .refusedMode })) ∧
    (9 < w.toNat → exec (.clearWindow tag w) s = .next (s.answered 17 tag { status := .badWindow })) ∧
    (w.toNat ∈ [0, 1, 4, 5, 6, 7, 8] →
      exec (.clearWindow tag w) s = .next (s.answered 17 tag { status := .readOnly })) ∧
    (w = 3 → s.nc.mode ≠ .standby →
      exec (.clearWindow tag w) s = .next (s.answered 17 tag { status := .refusedMode })) ∧
    (∀ target, (w = 2 ∧ target = ClearTarget.trim) ∨ (w = 3 ∧ s.nc.mode = .standby ∧ target = .recipe) ∨
        (w = 9 ∧ target = .sample) →
      exec (.clearWindow tag w) s = .next { s with
        lp := s.replied 17 tag { status := .accepted, result0 := w }, nc.busy := .clearWindow target s.clock })) ∧
  ∀ (s : State) (since : Clock),
    (1000 ≤ (s.clock - since).toNat →
      (s.nc.busy = .clearWindow .trim since → exec .clearWindowCompletion s =
        .next { s with nc.busy := .idle, hu.trim := Vector.replicate 16 ⟨0, 1024⟩ }) ∧
      (s.nc.busy = .clearWindow .recipe since → exec .clearWindowCompletion s =
        .next { s with nc.busy := .idle, rs.words := Vector.replicate 128 0 }) ∧
      (s.nc.busy = .clearWindow .sample since → exec .clearWindowCompletion s =
        .next { s with nc.busy := .idle, vu.samples := [] })) ∧
    (∀ target, s.nc.busy = .clearWindow target since → (s.clock - since).toNat < 1000 →
      exec .clearWindowCompletion s = .next s) ∧
    ((∀ target start, s.nc.busy ≠ .clearWindow target start) → exec .clearWindowCompletion s = .next s) ∧
    (s.nc.busy = .resetNode since → (s.clock - since).toNat < 2000 → exec .warmResetCompletion s = .next s) ∧
    ((∀ start, s.nc.busy ≠ .resetNode start) → exec .warmResetCompletion s = .next s)

/-- WARM_RESET_COMPLETION (R152), at 2000 ticks: what each block sets and what it keeps. -/
def Obligations.WarmResetCompletes : Prop :=
  ∀ (s : State) (since : Clock),
    s.nc.busy = .resetNode since → 2000 ≤ (s.clock - since).toNat → ∃ t, exec .warmResetCompletion s = .next t ∧
      (∀ k, t.record k = Record.cleared) ∧ t.tu.origin = 0 ∧ t.tu.stations = s.tu.stations ∧
      t.tu.nextSerial = s.tu.nextSerial ∧
      (∀ h, t.head h = {
        state := if (s.head h).state = .faulted then .faulted else if (s.head h).enabled = true then .idle else .disabled
        enabled := (s.head h).enabled
        bound := none
        trailing := none
        clampWait := 0
        doseCounter := 0
        timer := none }) ∧
      t.hu.trim = s.hu.trim ∧ t.hu.trimRows = s.hu.trimRows ∧
      t.lp = { s.lp with queue := [], candidate := none, unchecked := true } ∧
      t.vu.samples = [] ∧ (∀ k : Fin 8, t.vu.tallies[k] = ⟨0, 0, 0, 0, 0⟩) ∧
      (∀ k, t.inUse k = 0) ∧ t.rs.parkList = [] ∧ t.rs.scope = none ∧ t.rs.words = s.rs.words ∧
      t.nc = { mode := .standby, wakeCount := 0, tripCause := none, alerts := 0, busy := .idle, ringEmpty := true,
               pointer := ⟨0, 0⟩, direction := .up, latch := 0, stale := false, clockHold := s.nc.clockHold } ∧
      t.clock = s.clock ∧ t.coldResetPin = s.coldResetPin ∧ t.linkOut = s.linkOut ∧ t.pending = s.pending

/-! ### HEAD requests -/

/-- The head selector (R51, R166): ONE, FIRST and SET name exactly the heads of the rule, in order of head number. HEAD
ENABLE and HEAD DISABLE (R52, R53): the flag of each named head, DISABLED and FAULTED to IDLE by ENABLE, IDLE to
DISABLED by DISABLE, nothing else; a bad selector is BAD_VALUE and changes no head. -/
def Obligations.HeadEnableAndDisable : Prop :=
  (∀ (tag : BitVec 8) (sel v1 v2 : Word) (s : State), s.ready →
    (∀ hs, selectHeads sel v1 v2 = some hs →
      exec (.headEnable tag sel v1 v2) s = .next { s with
        lp := s.replied 7 tag { status := .done, result0 := BitVec.ofNat 16 hs.length }
        hu.heads := Vector.ofFn (fun h => if h ∈ hs then { s.head h with
          enabled := true
          state := if (s.head h).state = .disabled ∨ (s.head h).state = .faulted then .idle else (s.head h).state }
          else s.head h) } ∧
      exec (.headDisable tag sel v1 v2) s = .next { s with
        lp := s.replied 8 tag { status := .done, result0 := BitVec.ofNat 16 hs.length }
        hu.heads := Vector.ofFn (fun h => if h ∈ hs then { s.head h with
          enabled := false
          state := if (s.head h).state = .idle then .disabled else (s.head h).state }
          else s.head h) }) ∧
    (selectHeads sel v1 v2 = none →
      exec (.headEnable tag sel v1 v2) s = .next (s.answered 7 tag { status := .badValue }) ∧
      exec (.headDisable tag sel v1 v2) s = .next (s.answered 8 tag { status := .badValue }) ∧
      exec (.headStop tag sel v1 v2) s = .next (s.answered 9 tag { status := .badValue }))) ∧
  ∀ (sel v1 v2 : Word),
    (sel = 0 → (∀ h : Fin 24, v1.toNat = h.val → selectHeads sel v1 v2 = some [h]) ∧
      (23 < v1.toNat → selectHeads sel v1 v2 = none)) ∧
    (sel = 1 → (v1.toNat ≤ 24 → ∃ hs, selectHeads sel v1 v2 = some hs ∧ hs.Pairwise (· < ·) ∧
        ∀ h : Fin 24, h ∈ hs ↔ v1.toNat = 0 ∨ h.val < v1.toNat) ∧
      (24 < v1.toNat → selectHeads sel v1 v2 = none)) ∧
    (sel = 2 → ((v1 ≠ 0 ∨ v2 ≠ 0) → v2.toNat < 256 → ∃ hs, selectHeads sel v1 v2 = some hs ∧ hs.Pairwise (· < ·) ∧
        ∀ h : Fin 24, h ∈ hs ↔ (v2 ++ v1).getLsbD h.val = true) ∧
      (v1 = 0 ∧ v2 = 0 ∨ 255 < v2.toNat → selectHeads sel v1 v2 = none)) ∧
    (2 < sel.toNat → selectHeads sel v1 v2 = none)

/-- HEAD STOP (R51, R54): every named head loses its flag; a bound one's record takes HEAD_STOPPED and is unbound, it goes to
ABORTING, and its ABORT replaces its queued commands, in order of head number; an IDLE one is DISABLED. (The queue has room
for the ABORTs.) For one head with 48 commands of other heads queued the ABORT is not added, and the trip entry with cause
QUEUE_FULL is made on the ABORTING head, which queues it again (R136, R49, R148). -/
def Obligations.HeadStopAborts : Prop :=
  (∀ (tag : BitVec 8) (sel v1 v2 : Word) (hs stopped : List (Fin 24)) (s : State), s.ready → s.Joined →
    selectHeads sel v1 v2 = some hs → stopped = hs.filter (fun h => (s.head h).state.isBound) →
    s.lp.queue.length + stopped.length ≤ 48 →
    ∃ t, exec (.headStop tag sel v1 v2) s = .next t ∧
      t = { s with
        lp := { s.replied 9 tag { status := .done, result0 := BitVec.ofNat 16 hs.length,
                                  result1 := BitVec.ofNat 16 stopped.length } with
          queue := s.lp.queue.filter (fun c => c.head ∉ stopped) ++ stopped.map (fun h => ⟨h, .abort, 0⟩) }
        hu.heads := Vector.ofFn (fun h => if h ∈ stopped then { s.head h with
            enabled := false, state := .aborting, bound := none, trailing := (s.head h).bound, timer := none }
          else if h ∈ hs then { s.head h with
            enabled := false, state := if (s.head h).state = .idle then .disabled else (s.head h).state }
          else s.head h)
        tu.ring := t.tu.ring } ∧
      (∀ k, t.record k = if ∃ h ∈ stopped, (s.head h).bound = some (s.tagOf k) then { s.record k with
          bound := false, causes := addCause .headStopped (s.record k).causes } else s.record k)) ∧
  ∀ (tag : BitVec 8) (sel v1 v2 : Word) (h : Fin 24) (l : Link) (s : State), s.ready → s.Joined →
    selectHeads sel v1 v2 = some [h] → (s.head h).bound = some l → 48 ≤ (s.lp.queue.filter (fun c => c.head != h)).length →
    ∃ t, exec (.headStop tag sel v1 v2) s = .next t ∧ State.TripEntryTo .queueFull { s with
      lp := s.replied 9 tag { status := .done, result0 := 1, result1 := 1 }
      tu.ring := s.tu.ring.set l.slot { s.record l.slot with
        bound := false, causes := addCause .headStopped (s.record l.slot).causes }
      hu.heads := s.hu.heads.set h { s.head h with
        enabled := false, state := .aborting, bound := none, trailing := some l, timer := none } } t

/-! ### SAMPLE, TALLY CLEAR, CLEAR ALERTS -/

/-- SAMPLE (R99, R98): a malformed request is BAD_VALUE, a full list LIST_FULL, and else the request joins as the newest and
the reply counts the list; NOT_AWAKE in WAIT_SYNC and BUSY during a busy operation. ANY matches every can, SLOT the cans of its
slot and HEAD those of its predicted head (R98, R100). -/
def Obligations.SampleJoinsList : Prop :=
  (∀ (q : SampleKind) (k : Fin 8) (h : Fin 24), q.isFor k h = true ↔ q = .any ∨ q = .slot k ∨ q = .head h) ∧
  ∀ (tag : BitVec 8) (kind arg stag : Word) (s : State),
    (s.ready → 2 < kind.toNat ∨ (kind = 1 ∧ 7 < arg.toNat) ∨ (kind = 2 ∧ 23 < arg.toNat) ∨ 255 < stag.toNat →
      exec (.sample tag kind arg stag) s = .next (s.answered 10 tag { status := .badValue })) ∧
    (∀ q : SampleRequest, s.ready → stag.toNat = q.tag.toNat →
      ((kind = 0 ∧ q.kind = .any) ∨ (∃ k : Fin 8, kind = 1 ∧ arg.toNat = k.val ∧ q.kind = .slot k) ∨
        (∃ h : Fin 24, kind = 2 ∧ arg.toNat = h.val ∧ q.kind = .head h)) →
      (4 ≤ s.vu.samples.length →
        exec (.sample tag kind arg stag) s = .next (s.answered 10 tag { status := .listFull })) ∧
      (s.vu.samples.length < 4 → exec (.sample tag kind arg stag) s = .next { s with
        lp := s.replied 10 tag { status := .done, result0 := BitVec.ofNat 16 (s.vu.samples.length + 1) }
        vu.samples := s.vu.samples ++ [q] })) ∧
    (s.linkHeld = false → s.nc.mode = .waitSync → exec (.sample tag kind arg stag) s = .next { s with
      lp.transit := s.lp.transit ++ [s.replyFrame 10 tag { status := .notAwake }], nc.wakeCount := 0 }) ∧
    (s.bypassed = false → s.nc.busy ≠ .idle →
      exec (.sample tag kind arg stag) s = .next (s.answered 10 tag { status := .busy }))

/-- TALLY CLEAR (R104): admitted becomes in-use and the other four 0 in every slot, and nothing else changes; NOT_AWAKE in
WAIT_SYNC and BUSY during a busy operation. -/
def Obligations.TallyClearBalances : Prop :=
  ∀ (tag : BitVec 8) (s : State),
    (s.ready → exec (.tallyClear tag) s = .next { s with
      lp := s.replied 18 tag { status := .done }
      vu.tallies := Vector.ofFn (fun k => ⟨BitVec.ofNat 32 (s.inUse k), 0, 0, 0, 0⟩) }) ∧
    (s.linkHeld = false → s.nc.mode = .waitSync → exec (.tallyClear tag) s = .next { s with
      lp.transit := s.lp.transit ++ [s.replyFrame 18 tag { status := .notAwake }], nc.wakeCount := 0 }) ∧
    (s.bypassed = false → s.nc.busy ≠ .idle →
      exec (.tallyClear tag) s = .next (s.answered 18 tag { status := .busy }))

/-- CLEAR ALERTS (R162): every named kind leaves the set, the others stay, and the reply shows the set after; a word with the
sixteenth place set is BAD_VALUE. -/
def Obligations.ClearAlertsRemovesNamed : Prop :=
  ∀ (tag : BitVec 8) (kinds : Word) (s : State), s.ready →
    (kinds.getLsbD 15 = false → ∃ t, exec (.clearAlerts tag kinds) s = .next t ∧
      t = { s with
        lp := s.replied 15 tag { status := .done, result0 := t.nc.alerts.setWidth 16 }
        nc.alerts := t.nc.alerts } ∧
      ∀ a : AlertKind, hasAlert a t.nc.alerts = (hasAlert a s.nc.alerts && !kinds.getLsbD a.place)) ∧
    (kinds.getLsbD 15 = true →
      exec (.clearAlerts tag kinds) s = .next (s.answered 15 tag { status := .badValue }))

/-! ### Scopes and the Park List -/

/-- SCOPE OPEN (R117), SCOPE CLOSE (R118), SCOPE ABANDON (R119) and UNPARK (R120): each answer by its conditions in order. -/
def Obligations.ScopesAndUnpark : Prop :=
  ∀ (tag : BitVec 8) (s : State), s.ready →
    (s.nc.mode = .trip → exec (.scopeOpen tag) s = .next (s.answered 11 tag { status := .refusedMode })) ∧
    (s.nc.mode ≠ .trip → s.rs.scope.isSome = true →
      exec (.scopeOpen tag) s = .next (s.answered 11 tag { status := .scopeOpen })) ∧
    (s.nc.mode ≠ .trip → s.rs.scope = none → exec (.scopeOpen tag) s = .next { s with
      lp := s.replied 11 tag { status := .done, result0 := BitVec.ofNat 16 s.rs.parkList.length }
      rs.scope := some s.rs.parkList.length }) ∧
    (s.rs.scope = none →
      exec (.scopeClose tag) s = .next (s.answered 12 tag { status := .noScope }) ∧
      exec (.scopeAbandon tag) s = .next (s.answered 13 tag { status := .noScope })) ∧
    (∀ m, s.rs.scope = some m →
      exec (.scopeClose tag) s = .next { s with
        lp := s.replied 12 tag { status := .done }
        rs := ({ s.rs with scope := none } : RecipeStore).applyParked (fun _ => true) } ∧
      exec (.scopeAbandon tag) s = .next { s with
        lp := s.replied 13 tag { status := .done }
        rs.parkList := s.rs.parkList.take m
        rs.scope := none }) ∧
    (s.rs.parkList = [] → exec (.unpark tag) s = .next (s.answered 14 tag { status := .parkEmpty })) ∧
    (∀ es e, s.rs.parkList = es ++ [e] →
      (s.rs.scope = some (es.length + 1) →
        exec (.unpark tag) s = .next (s.answered 14 tag { status := .underMark })) ∧
      (s.rs.scope ≠ some (es.length + 1) → exec (.unpark tag) s = .next { s with
        lp := s.replied 14 tag ⟨.done, BitVec.ofNat 16 e.slot.val, BitVec.ofNat 16 e.word.val, e.value,
          BitVec.ofNat 16 es.length⟩
        rs.parkList := es }))

/-- Application (R113, R114): of the entries outside any open scope, those whose slot is named and has no can in use are stored,
the later of two for one word standing, and leave; the rest stay in order; the mark falls by their number. -/
def Obligations.ApplicationStoresAndRemoves : Prop :=
  ∀ (rs : RecipeStore) (slots : Fin 8 → Bool), (∀ m, rs.scope = some m → m ≤ rs.parkList.length) →
    ∀ below inside gone, below ++ inside = rs.parkList → (∀ m, rs.scope = some m → below.length = m) →
      (rs.scope = none → inside = []) →
      gone = below.filter (fun e => slots e.slot && rs.inUse[e.slot] == 0) →
      (rs.applyParked slots).parkList = below.filter (fun e => !(slots e.slot && rs.inUse[e.slot] == 0)) ++ inside ∧
      (rs.applyParked slots).scope = rs.scope.map (fun m => m - gone.length) ∧
      (rs.applyParked slots).inUse = rs.inUse ∧
      ∀ (k : Fin 8) (w : Fin 16), (rs.applyParked slots).words[recipeIndex k w] =
        (((gone.filter (fun e => e.slot == k && e.word == w)).getLast?).map ParkEntry.value).getD rs.words[recipeIndex k w]

/-! ### The whole machine -/

/-- The words of a recipe slot change only at an event that leaves no can of the slot in use (R109). -/
def Obligations.RecipeWordsFixedInUse : Prop :=
  ∀ (c : Instr) (s t : State) (k : Fin 8) (w : Fin 16), s.ModesLegal → s.Accounted → exec c s = .next t →
    t.recipeWord k w ≠ s.recipeWord k w → t.inUse k = 0

/-- A FINAL record keeps its verdict and every other field until it is freed (R94, R95). -/
def Obligations.VerdictsStand : Prop :=
  ∀ (c : Instr) (s t : State) (k : Fin 64), s.Accounted → exec c s = .next t → (s.record k).state = .final →
    t.record k = s.record k ∨ (t.record k).state ≠ .final

/-- State.reset has every invariant below. -/
def Obligations.ResetMeetsInvariants : Prop :=
  State.reset.Bounded ∧ State.reset.ModesLegal ∧ State.reset.RecordsLegal ∧ State.reset.HeadsLegal ∧
    State.reset.Accounted ∧ State.reset.Joined ∧ State.reset.QueueLegal

/-- Every step keeps the capacities and ranges (R136, R111, R98, R140, R156, R63, R134). -/
def Obligations.StepKeepsBounds : Prop := ∀ s t : State, s.Bounded → step s = .next t → t.Bounded

/-- Every step keeps the rules of the modes (R140, R149, R151, R160). -/
def Obligations.StepKeepsModes : Prop := ∀ s t : State, s.ModesLegal → step s = .next t → t.ModesLegal

/-- Every step keeps the rules of the records (R6, R8, R94) and the ties of the head contexts (R36). -/
def Obligations.StepKeepsRecordsAndHeads : Prop :=
  (∀ s t : State, s.RecordsLegal → step s = .next t → t.RecordsLegal) ∧
    ∀ s t : State, s.HeadsLegal → step s = .next t → t.HeadsLegal

/-- Every step keeps the account of the cans (R103, R108, R21, R144, R13). -/
def Obligations.StepKeepsAccount : Prop := ∀ s t : State, s.Accounted → step s = .next t → t.Accounted

/-- Every step keeps the joins of heads and records (R37). -/
def Obligations.StepKeepsJoins : Prop := ∀ s t : State, s.Joined → step s = .next t → t.Joined

/-- Every step keeps the rules of the Command Queue and the charge-limit timers (R136, R48, R67, R69). -/
def Obligations.StepKeepsQueue : Prop := ∀ s t : State, s.QueueLegal → step s = .next t → t.QueueLegal
end

