-- ==== Sys2Proof/Laws/Check.lean ====
section
/-! SUPPORT. Checks that Lean can evaluate on a concrete state for the invariants of Safety.lean, each with the lemma that
a passed check gives the invariant. -/

namespace Sys2Proof.Machine

/-- The check of HeadsLegal. -/
abbrev State.headsCheck (s : State) : Prop :=
  (∀ h, (s.head h).state.isBound = (s.head h).bound.isSome) ∧
    (∀ h, (s.head h).state = .idle → (s.head h).enabled = true) ∧
      ∀ h, (s.head h).state = .disabled → (s.head h).enabled = false

theorem State.HeadsLegal.of_check {s : State} (h : s.headsCheck) : s.HeadsLegal := ⟨h.1, h.2.1, h.2.2⟩

/-- A link of a head, checked. -/
abbrev State.linkCheck (s : State) (h : Fin 24) (l : Link) : Prop :=
  s.namesLoaded l = true ∧ (s.record l.slot).head = some h ∧ (s.record l.slot).bound = true ∧
    s.stationE ≤ s.position l.slot ∧ s.position l.slot < s.stationR

/-- A proposition of an optional value, over the value it holds. -/
abbrev onSome {α : Type} (o : Option α) (p : α → Bool) : Bool :=
  match o with
  | none => true
  | some x => p x

theorem onSome_forall {α : Type} {o : Option α} {p : α → Bool} (h : onSome o p = true) :
    ∀ x, o = some x → p x = true := by rintro x rfl; exact h

/-- The mode a busy operation needs. -/
abbrev busyMode (b : BusyOp) (m : Mode) : Bool :=
  match b with
  | .clearWindow .recipe _ => m == .standby
  | .resetNode _ => m == .standby || m == .trip
  | .clearWindow .trim _ | .clearWindow .sample _ | .idle => true

/-- The check of ModesLegal. -/
abbrev State.modesCheck (s : State) : Prop :=
  (s.coldResetPin = true → s.nc.mode = .waitSync) ∧ (s.nc.mode = .waitSync → s.nc.busy = .idle) ∧
    (s.nc.tripCause.isSome = true ↔ s.nc.mode = .trip) ∧
      (s.nc.mode = .trip → ∀ k, (s.record k).state = .loaded → hasCause .tripped (s.record k).causes = true) ∧
        busyMode s.nc.busy s.nc.mode = true

theorem State.ModesLegal.of_check {s : State} (h : s.modesCheck) : s.ModesLegal := by
  obtain ⟨a, b, c, d, e⟩ := h
  exact ⟨a, b, c, d, fun _ x => by simpa [x] using e, fun _ x => by simpa [x] using e⟩

/-- The check of Accounted. -/
abbrev State.accountCheck (s : State) : Prop :=
  (s.coldResetPin = true → s.nc.mode = .waitSync) ∧ (s.nc.mode = .waitSync → s.nc.busy = .idle) ∧
    (s.nc.mode = .run ∨ s.nc.mode = .drain ∨ s.nc.mode = .trip → s.stationsValid = true) ∧
      (s.nc.mode = .waitSync ∨ s.nc.mode = .standby → ∀ k, (s.record k).state = .empty) ∧
        (∀ k, (s.record k).state = .loaded → s.position k < s.stationJ) ∧ s.nc.ringEmpty = s.allEmpty ∧
          (∀ k, s.inUse k = s.loadedOf k) ∧
            ∀ k : Fin 8, (s.vu.tallies[k]).admitted =
              (s.vu.tallies[k]).passed + (s.vu.tallies[k]).rejected + (s.vu.tallies[k]).sampled
                + (s.vu.tallies[k]).backedOut + BitVec.ofNat 32 (s.inUse k)

theorem State.Accounted.of_check {s : State} (h : s.accountCheck) : s.Accounted := by
  obtain ⟨a, b, c, d, e, f, g, i⟩ := h
  exact ⟨a, b, c, d, e, f, g, i⟩

/-- The check of Joined. -/
abbrev State.joinsCheck (s : State) : Prop :=
  s.accountCheck ∧ s.headsCheck ∧ (∀ h, onSome (s.head h).bound (fun l => s.linkCheck h l) = true) ∧
    (∀ k, (s.record k).bound = true → (s.record k).engaged = true ∧
      ∃ h, (s.record k).head = some h ∧ (s.head h).bound = some (s.tagOf k)) ∧
        ∀ h, (s.head h).bound.isSome = true → s.working

theorem State.Joined.of_check {s : State} (h : s.joinsCheck) : s.Joined := by
  obtain ⟨a, b, c, d, e⟩ := h
  exact ⟨.of_check a, .of_check b, fun x l y => of_decide_eq_true (onSome_forall (c x) l y), d, e⟩

/-- The check of QueueLegal. -/
abbrev State.queueCheck (s : State) : Prop :=
  s.joinsCheck ∧ (∀ c ∈ s.lp.queue, c.kind = .openGas → (s.head c.head).state = .charging) ∧
    (∀ h, ((s.queuedFor h).filter (fun c => c.kind == .openGas)).length ≤ 1) ∧
      (∀ h, (s.head h).timer.isSome = true → (s.head h).state = .charging) ∧
        (∀ h, (s.head h).state = .aborting → s.queuedFor h = [abortCommand h]) ∧
          ∀ h, onSome (s.head h).bound (fun l =>
            ((s.head h).state = .engaged ∨ (s.head h).state = .charging → s.position l.slot < s.stationC) ∧
              ((s.head h).state = .clamped → s.position l.slot < s.stationG)) = true

theorem State.QueueLegal.of_check {s : State} (h : s.queueCheck) : s.QueueLegal := by
  obtain ⟨a, b, c, d, e, f⟩ := h
  exact ⟨.of_check a, fun x m k => b x m k, c, d, e, fun x l y => of_decide_eq_true (onSome_forall (f x) l y)⟩

/-- The check of Bounded. -/
abbrev State.boundsCheck (s : State) : Prop :=
  s.lp.queue.length ≤ 48 ∧ s.rs.parkList.length ≤ 16 ∧
    onSome s.rs.scope (fun m => m ≤ s.rs.parkList.length) = true ∧ s.vu.samples.length ≤ 4 ∧ s.nc.wakeCount ≤ 2 ∧
      s.nc.pointer.index < windowLength s.nc.pointer.window ∧ s.hu.trimRows.toNat ≤ 16 ∧
        5 ≤ s.lp.gapLimit.toNat ∧ s.lp.gapLimit.toNat ≤ 2000

theorem State.Bounded.of_check {s : State} (h : s.boundsCheck) : s.Bounded := by
  obtain ⟨a, b, c, d, e, f, g, i⟩ := h
  exact ⟨a, b, fun m x => of_decide_eq_true (onSome_forall c m x), d, e, f, g, i⟩

/-- The check of RecordsLegal. -/
abbrev State.recordsCheck (s : State) : Prop :=
  (∀ k, (s.record k).state = .empty → s.record k = Record.cleared) ∧
    (∀ k, (s.record k).verdict.isSome = true ↔ (s.record k).state = .final) ∧
      ∀ k, (s.record k).verdict = some .pass ∨ (s.record k).verdict = some .sample → (s.record k).causes = 0

theorem State.RecordsLegal.of_check {s : State} (h : s.recordsCheck) : s.RecordsLegal := ⟨h.1, h.2.1, h.2.2⟩

end Sys2Proof.Machine
end

