-- ==== Sys2Proof/Laws/State.lean ====
section
/-! SUPPORT. What each plain update of the state leaves in every field, each by definition, so that no later proof unfolds a
record update. -/

namespace Sys2Proof.Machine

/-! ### setRecord -/

@[simp] theorem setRecord_lp (k : Fin 64) (r : Record) (s : State) : (s.setRecord k r).lp = s.lp := rfl
@[simp] theorem setRecord_hu (k : Fin 64) (r : Record) (s : State) : (s.setRecord k r).hu = s.hu := rfl
@[simp] theorem setRecord_vu (k : Fin 64) (r : Record) (s : State) : (s.setRecord k r).vu = s.vu := rfl
@[simp] theorem setRecord_rs (k : Fin 64) (r : Record) (s : State) : (s.setRecord k r).rs = s.rs := rfl
@[simp] theorem setRecord_nc (k : Fin 64) (r : Record) (s : State) : (s.setRecord k r).nc = s.nc := rfl
@[simp] theorem setRecord_clock (k : Fin 64) (r : Record) (s : State) : (s.setRecord k r).clock = s.clock := rfl
@[simp] theorem setRecord_coldResetPin (k : Fin 64) (r : Record) (s : State) : (s.setRecord k r).coldResetPin = s.coldResetPin := rfl
@[simp] theorem setRecord_linkOut (k : Fin 64) (r : Record) (s : State) : (s.setRecord k r).linkOut = s.linkOut := rfl
@[simp] theorem setRecord_pending (k : Fin 64) (r : Record) (s : State) : (s.setRecord k r).pending = s.pending := rfl
@[simp] theorem setRecord_stations (k : Fin 64) (r : Record) (s : State) : (s.setRecord k r).tu.stations = s.tu.stations := rfl
@[simp] theorem setRecord_ring (k : Fin 64) (r : Record) (s : State) : (s.setRecord k r).tu.ring = s.tu.ring.set k r := rfl
@[simp] theorem setRecord_origin (k : Fin 64) (r : Record) (s : State) : (s.setRecord k r).tu.origin = s.tu.origin := rfl
@[simp] theorem setRecord_nextSerial (k : Fin 64) (r : Record) (s : State) : (s.setRecord k r).tu.nextSerial = s.tu.nextSerial := rfl
@[simp] theorem setRecord_head (k : Fin 64) (r : Record) (s : State) (j : Fin 24) : (s.setRecord k r).head j = s.head j := rfl
@[simp] theorem setRecord_recipeWord (k : Fin 64) (r : Record) (s : State) (j : Fin 8) (w : Fin 16) : (s.setRecord k r).recipeWord j w = s.recipeWord j w := rfl
@[simp] theorem setRecord_inUseAt (k : Fin 64) (r : Record) (s : State) (j : Fin 8) : (s.setRecord k r).inUse j = s.inUse j := rfl
@[simp] theorem setRecord_position (k : Fin 64) (r : Record) (s : State) (j : Fin 64) : (s.setRecord k r).position j = s.position j := rfl
@[simp] theorem setRecord_slotAt (k : Fin 64) (r : Record) (s : State) (p : Nat) : (s.setRecord k r).slotAt p = s.slotAt p := rfl

/-! ### setHead -/

@[simp] theorem setHead_lp (h : Fin 24) (c : HeadContext) (s : State) : (s.setHead h c).lp = s.lp := rfl
@[simp] theorem setHead_tu (h : Fin 24) (c : HeadContext) (s : State) : (s.setHead h c).tu = s.tu := rfl
@[simp] theorem setHead_vu (h : Fin 24) (c : HeadContext) (s : State) : (s.setHead h c).vu = s.vu := rfl
@[simp] theorem setHead_rs (h : Fin 24) (c : HeadContext) (s : State) : (s.setHead h c).rs = s.rs := rfl
@[simp] theorem setHead_nc (h : Fin 24) (c : HeadContext) (s : State) : (s.setHead h c).nc = s.nc := rfl
@[simp] theorem setHead_clock (h : Fin 24) (c : HeadContext) (s : State) : (s.setHead h c).clock = s.clock := rfl
@[simp] theorem setHead_coldResetPin (h : Fin 24) (c : HeadContext) (s : State) : (s.setHead h c).coldResetPin = s.coldResetPin := rfl
@[simp] theorem setHead_linkOut (h : Fin 24) (c : HeadContext) (s : State) : (s.setHead h c).linkOut = s.linkOut := rfl
@[simp] theorem setHead_pending (h : Fin 24) (c : HeadContext) (s : State) : (s.setHead h c).pending = s.pending := rfl
@[simp] theorem setHead_heads (h : Fin 24) (c : HeadContext) (s : State) : (s.setHead h c).hu.heads = s.hu.heads.set h c := rfl
@[simp] theorem setHead_trim (h : Fin 24) (c : HeadContext) (s : State) : (s.setHead h c).hu.trim = s.hu.trim := rfl
@[simp] theorem setHead_trimRows (h : Fin 24) (c : HeadContext) (s : State) : (s.setHead h c).hu.trimRows = s.hu.trimRows := rfl
@[simp] theorem setHead_record (h : Fin 24) (c : HeadContext) (s : State) (j : Fin 64) : (s.setHead h c).record j = s.record j := rfl
@[simp] theorem setHead_recipeWord (h : Fin 24) (c : HeadContext) (s : State) (j : Fin 8) (w : Fin 16) : (s.setHead h c).recipeWord j w = s.recipeWord j w := rfl
@[simp] theorem setHead_inUseAt (h : Fin 24) (c : HeadContext) (s : State) (j : Fin 8) : (s.setHead h c).inUse j = s.inUse j := rfl
@[simp] theorem setHead_position (h : Fin 24) (c : HeadContext) (s : State) (j : Fin 64) : (s.setHead h c).position j = s.position j := rfl
@[simp] theorem setHead_slotAt (h : Fin 24) (c : HeadContext) (s : State) (p : Nat) : (s.setHead h c).slotAt p = s.slotAt p := rfl

/-! ### raiseAlert -/

@[simp] theorem raiseAlert_lp (a : AlertKind) (s : State) : (raiseAlert a s).lp = s.lp := rfl
@[simp] theorem raiseAlert_tu (a : AlertKind) (s : State) : (raiseAlert a s).tu = s.tu := rfl
@[simp] theorem raiseAlert_hu (a : AlertKind) (s : State) : (raiseAlert a s).hu = s.hu := rfl
@[simp] theorem raiseAlert_vu (a : AlertKind) (s : State) : (raiseAlert a s).vu = s.vu := rfl
@[simp] theorem raiseAlert_rs (a : AlertKind) (s : State) : (raiseAlert a s).rs = s.rs := rfl
@[simp] theorem raiseAlert_clock (a : AlertKind) (s : State) : (raiseAlert a s).clock = s.clock := rfl
@[simp] theorem raiseAlert_coldResetPin (a : AlertKind) (s : State) : (raiseAlert a s).coldResetPin = s.coldResetPin := rfl
@[simp] theorem raiseAlert_linkOut (a : AlertKind) (s : State) : (raiseAlert a s).linkOut = s.linkOut := rfl
@[simp] theorem raiseAlert_pending (a : AlertKind) (s : State) : (raiseAlert a s).pending = s.pending := rfl
@[simp] theorem raiseAlert_mode (a : AlertKind) (s : State) : (raiseAlert a s).nc.mode = s.nc.mode := rfl
@[simp] theorem raiseAlert_wakeCount (a : AlertKind) (s : State) : (raiseAlert a s).nc.wakeCount = s.nc.wakeCount := rfl
@[simp] theorem raiseAlert_tripCause (a : AlertKind) (s : State) : (raiseAlert a s).nc.tripCause = s.nc.tripCause := rfl
@[simp] theorem raiseAlert_alerts (a : AlertKind) (s : State) : (raiseAlert a s).nc.alerts = addAlert a s.nc.alerts := rfl
@[simp] theorem raiseAlert_busy (a : AlertKind) (s : State) : (raiseAlert a s).nc.busy = s.nc.busy := rfl
@[simp] theorem raiseAlert_ringEmpty (a : AlertKind) (s : State) : (raiseAlert a s).nc.ringEmpty = s.nc.ringEmpty := rfl
@[simp] theorem raiseAlert_pointer (a : AlertKind) (s : State) : (raiseAlert a s).nc.pointer = s.nc.pointer := rfl
@[simp] theorem raiseAlert_direction (a : AlertKind) (s : State) : (raiseAlert a s).nc.direction = s.nc.direction := rfl
@[simp] theorem raiseAlert_latch (a : AlertKind) (s : State) : (raiseAlert a s).nc.latch = s.nc.latch := rfl
@[simp] theorem raiseAlert_stale (a : AlertKind) (s : State) : (raiseAlert a s).nc.stale = s.nc.stale := rfl
@[simp] theorem raiseAlert_clockHold (a : AlertKind) (s : State) : (raiseAlert a s).nc.clockHold = s.nc.clockHold := rfl
@[simp] theorem raiseAlert_record (a : AlertKind) (s : State) (j : Fin 64) : (raiseAlert a s).record j = s.record j := rfl
@[simp] theorem raiseAlert_head (a : AlertKind) (s : State) (j : Fin 24) : (raiseAlert a s).head j = s.head j := rfl
@[simp] theorem raiseAlert_recipeWord (a : AlertKind) (s : State) (j : Fin 8) (w : Fin 16) : (raiseAlert a s).recipeWord j w = s.recipeWord j w := rfl
@[simp] theorem raiseAlert_inUseAt (a : AlertKind) (s : State) (j : Fin 8) : (raiseAlert a s).inUse j = s.inUse j := rfl
@[simp] theorem raiseAlert_position (a : AlertKind) (s : State) (j : Fin 64) : (raiseAlert a s).position j = s.position j := rfl
@[simp] theorem raiseAlert_slotAt (a : AlertKind) (s : State) (p : Nat) : (raiseAlert a s).slotAt p = s.slotAt p := rfl

/-! ### putTransit -/

@[simp] theorem putTransit_tu (x : TransitFrame) (s : State) : (putTransit x s).tu = s.tu := rfl
@[simp] theorem putTransit_hu (x : TransitFrame) (s : State) : (putTransit x s).hu = s.hu := rfl
@[simp] theorem putTransit_vu (x : TransitFrame) (s : State) : (putTransit x s).vu = s.vu := rfl
@[simp] theorem putTransit_rs (x : TransitFrame) (s : State) : (putTransit x s).rs = s.rs := rfl
@[simp] theorem putTransit_nc (x : TransitFrame) (s : State) : (putTransit x s).nc = s.nc := rfl
@[simp] theorem putTransit_clock (x : TransitFrame) (s : State) : (putTransit x s).clock = s.clock := rfl
@[simp] theorem putTransit_coldResetPin (x : TransitFrame) (s : State) : (putTransit x s).coldResetPin = s.coldResetPin := rfl
@[simp] theorem putTransit_linkOut (x : TransitFrame) (s : State) : (putTransit x s).linkOut = s.linkOut := rfl
@[simp] theorem putTransit_pending (x : TransitFrame) (s : State) : (putTransit x s).pending = s.pending := rfl
@[simp] theorem putTransit_transit (x : TransitFrame) (s : State) : (putTransit x s).lp.transit = s.lp.transit ++ [x] := rfl
@[simp] theorem putTransit_queue (x : TransitFrame) (s : State) : (putTransit x s).lp.queue = s.lp.queue := rfl
@[simp] theorem putTransit_candidate (x : TransitFrame) (s : State) : (putTransit x s).lp.candidate = s.lp.candidate := rfl
@[simp] theorem putTransit_lastCount (x : TransitFrame) (s : State) : (putTransit x s).lp.lastCount = s.lp.lastCount := rfl
@[simp] theorem putTransit_lastPhase (x : TransitFrame) (s : State) : (putTransit x s).lp.lastPhase = s.lp.lastPhase := rfl
@[simp] theorem putTransit_unchecked (x : TransitFrame) (s : State) : (putTransit x s).lp.unchecked = s.lp.unchecked := rfl
@[simp] theorem putTransit_gapTimer (x : TransitFrame) (s : State) : (putTransit x s).lp.gapTimer = s.lp.gapTimer := rfl
@[simp] theorem putTransit_gapLimit (x : TransitFrame) (s : State) : (putTransit x s).lp.gapLimit = s.lp.gapLimit := rfl
@[simp] theorem putTransit_nodeAddress (x : TransitFrame) (s : State) : (putTransit x s).lp.nodeAddress = s.lp.nodeAddress := rfl
@[simp] theorem putTransit_record (x : TransitFrame) (s : State) (j : Fin 64) : (putTransit x s).record j = s.record j := rfl
@[simp] theorem putTransit_head (x : TransitFrame) (s : State) (j : Fin 24) : (putTransit x s).head j = s.head j := rfl
@[simp] theorem putTransit_recipeWord (x : TransitFrame) (s : State) (j : Fin 8) (w : Fin 16) : (putTransit x s).recipeWord j w = s.recipeWord j w := rfl
@[simp] theorem putTransit_inUseAt (x : TransitFrame) (s : State) (j : Fin 8) : (putTransit x s).inUse j = s.inUse j := rfl
@[simp] theorem putTransit_position (x : TransitFrame) (s : State) (j : Fin 64) : (putTransit x s).position j = s.position j := rfl
@[simp] theorem putTransit_slotAt (x : TransitFrame) (s : State) (p : Nat) : (putTransit x s).slotAt p = s.slotAt p := rfl

/-! ### sendOut -/

@[simp] theorem sendOut_lp (ws : List Word) (s : State) : (sendOut ws s).lp = s.lp := rfl
@[simp] theorem sendOut_tu (ws : List Word) (s : State) : (sendOut ws s).tu = s.tu := rfl
@[simp] theorem sendOut_hu (ws : List Word) (s : State) : (sendOut ws s).hu = s.hu := rfl
@[simp] theorem sendOut_vu (ws : List Word) (s : State) : (sendOut ws s).vu = s.vu := rfl
@[simp] theorem sendOut_rs (ws : List Word) (s : State) : (sendOut ws s).rs = s.rs := rfl
@[simp] theorem sendOut_nc (ws : List Word) (s : State) : (sendOut ws s).nc = s.nc := rfl
@[simp] theorem sendOut_clock (ws : List Word) (s : State) : (sendOut ws s).clock = s.clock := rfl
@[simp] theorem sendOut_coldResetPin (ws : List Word) (s : State) : (sendOut ws s).coldResetPin = s.coldResetPin := rfl
@[simp] theorem sendOut_pending (ws : List Word) (s : State) : (sendOut ws s).pending = s.pending := rfl
@[simp] theorem sendOut_linkOut (ws : List Word) (s : State) : (sendOut ws s).linkOut = s.linkOut ++ [ws] := rfl
@[simp] theorem sendOut_record (ws : List Word) (s : State) (j : Fin 64) : (sendOut ws s).record j = s.record j := rfl
@[simp] theorem sendOut_head (ws : List Word) (s : State) (j : Fin 24) : (sendOut ws s).head j = s.head j := rfl
@[simp] theorem sendOut_recipeWord (ws : List Word) (s : State) (j : Fin 8) (w : Fin 16) : (sendOut ws s).recipeWord j w = s.recipeWord j w := rfl
@[simp] theorem sendOut_inUseAt (ws : List Word) (s : State) (j : Fin 8) : (sendOut ws s).inUse j = s.inUse j := rfl
@[simp] theorem sendOut_position (ws : List Word) (s : State) (j : Fin 64) : (sendOut ws s).position j = s.position j := rfl
@[simp] theorem sendOut_slotAt (ws : List Word) (s : State) (p : Nat) : (sendOut ws s).slotAt p = s.slotAt p := rfl

/-! ### restartGap -/

@[simp] theorem restartGap_tu (s : State) : (restartGap s).tu = s.tu := rfl
@[simp] theorem restartGap_hu (s : State) : (restartGap s).hu = s.hu := rfl
@[simp] theorem restartGap_vu (s : State) : (restartGap s).vu = s.vu := rfl
@[simp] theorem restartGap_rs (s : State) : (restartGap s).rs = s.rs := rfl
@[simp] theorem restartGap_nc (s : State) : (restartGap s).nc = s.nc := rfl
@[simp] theorem restartGap_clock (s : State) : (restartGap s).clock = s.clock := rfl
@[simp] theorem restartGap_coldResetPin (s : State) : (restartGap s).coldResetPin = s.coldResetPin := rfl
@[simp] theorem restartGap_linkOut (s : State) : (restartGap s).linkOut = s.linkOut := rfl
@[simp] theorem restartGap_pending (s : State) : (restartGap s).pending = s.pending := rfl
@[simp] theorem restartGap_transit (s : State) : (restartGap s).lp.transit = s.lp.transit := rfl
@[simp] theorem restartGap_queue (s : State) : (restartGap s).lp.queue = s.lp.queue := rfl
@[simp] theorem restartGap_candidate (s : State) : (restartGap s).lp.candidate = s.lp.candidate := rfl
@[simp] theorem restartGap_lastCount (s : State) : (restartGap s).lp.lastCount = s.lp.lastCount := rfl
@[simp] theorem restartGap_lastPhase (s : State) : (restartGap s).lp.lastPhase = s.lp.lastPhase := rfl
@[simp] theorem restartGap_unchecked (s : State) : (restartGap s).lp.unchecked = s.lp.unchecked := rfl
@[simp] theorem restartGap_gapTimer (s : State) : (restartGap s).lp.gapTimer = .running s.clock := rfl
@[simp] theorem restartGap_gapLimit (s : State) : (restartGap s).lp.gapLimit = s.lp.gapLimit := rfl
@[simp] theorem restartGap_nodeAddress (s : State) : (restartGap s).lp.nodeAddress = s.lp.nodeAddress := rfl
@[simp] theorem restartGap_record (s : State) (j : Fin 64) : (restartGap s).record j = s.record j := rfl
@[simp] theorem restartGap_head (s : State) (j : Fin 24) : (restartGap s).head j = s.head j := rfl
@[simp] theorem restartGap_recipeWord (s : State) (j : Fin 8) (w : Fin 16) : (restartGap s).recipeWord j w = s.recipeWord j w := rfl
@[simp] theorem restartGap_inUseAt (s : State) (j : Fin 8) : (restartGap s).inUse j = s.inUse j := rfl
@[simp] theorem restartGap_position (s : State) (j : Fin 64) : (restartGap s).position j = s.position j := rfl
@[simp] theorem restartGap_slotAt (s : State) (p : Nat) : (restartGap s).slotAt p = s.slotAt p := rfl

/-! ### reportRing -/

@[simp] theorem reportRing_lp (s : State) : (reportRing s).lp = s.lp := rfl
@[simp] theorem reportRing_tu (s : State) : (reportRing s).tu = s.tu := rfl
@[simp] theorem reportRing_hu (s : State) : (reportRing s).hu = s.hu := rfl
@[simp] theorem reportRing_vu (s : State) : (reportRing s).vu = s.vu := rfl
@[simp] theorem reportRing_rs (s : State) : (reportRing s).rs = s.rs := rfl
@[simp] theorem reportRing_clock (s : State) : (reportRing s).clock = s.clock := rfl
@[simp] theorem reportRing_coldResetPin (s : State) : (reportRing s).coldResetPin = s.coldResetPin := rfl
@[simp] theorem reportRing_linkOut (s : State) : (reportRing s).linkOut = s.linkOut := rfl
@[simp] theorem reportRing_pending (s : State) : (reportRing s).pending = s.pending := rfl
@[simp] theorem reportRing_mode (s : State) : (reportRing s).nc.mode = s.nc.mode := rfl
@[simp] theorem reportRing_wakeCount (s : State) : (reportRing s).nc.wakeCount = s.nc.wakeCount := rfl
@[simp] theorem reportRing_tripCause (s : State) : (reportRing s).nc.tripCause = s.nc.tripCause := rfl
@[simp] theorem reportRing_alerts (s : State) : (reportRing s).nc.alerts = s.nc.alerts := rfl
@[simp] theorem reportRing_busy (s : State) : (reportRing s).nc.busy = s.nc.busy := rfl
@[simp] theorem reportRing_ringEmpty (s : State) : (reportRing s).nc.ringEmpty = s.allEmpty := rfl
@[simp] theorem reportRing_pointer (s : State) : (reportRing s).nc.pointer = s.nc.pointer := rfl
@[simp] theorem reportRing_direction (s : State) : (reportRing s).nc.direction = s.nc.direction := rfl
@[simp] theorem reportRing_latch (s : State) : (reportRing s).nc.latch = s.nc.latch := rfl
@[simp] theorem reportRing_stale (s : State) : (reportRing s).nc.stale = s.nc.stale := rfl
@[simp] theorem reportRing_clockHold (s : State) : (reportRing s).nc.clockHold = s.nc.clockHold := rfl
@[simp] theorem reportRing_record (s : State) (j : Fin 64) : (reportRing s).record j = s.record j := rfl
@[simp] theorem reportRing_head (s : State) (j : Fin 24) : (reportRing s).head j = s.head j := rfl
@[simp] theorem reportRing_recipeWord (s : State) (j : Fin 8) (w : Fin 16) : (reportRing s).recipeWord j w = s.recipeWord j w := rfl
@[simp] theorem reportRing_inUseAt (s : State) (j : Fin 8) : (reportRing s).inUse j = s.inUse j := rfl
@[simp] theorem reportRing_position (s : State) (j : Fin 64) : (reportRing s).position j = s.position j := rfl
@[simp] theorem reportRing_slotAt (s : State) (p : Nat) : (reportRing s).slotAt p = s.slotAt p := rfl

/-! ### raiseInUse -/

@[simp] theorem raiseInUse_lp (k : Fin 8) (s : State) : (raiseInUse k s).lp = s.lp := rfl
@[simp] theorem raiseInUse_tu (k : Fin 8) (s : State) : (raiseInUse k s).tu = s.tu := rfl
@[simp] theorem raiseInUse_hu (k : Fin 8) (s : State) : (raiseInUse k s).hu = s.hu := rfl
@[simp] theorem raiseInUse_vu (k : Fin 8) (s : State) : (raiseInUse k s).vu = s.vu := rfl
@[simp] theorem raiseInUse_nc (k : Fin 8) (s : State) : (raiseInUse k s).nc = s.nc := rfl
@[simp] theorem raiseInUse_clock (k : Fin 8) (s : State) : (raiseInUse k s).clock = s.clock := rfl
@[simp] theorem raiseInUse_coldResetPin (k : Fin 8) (s : State) : (raiseInUse k s).coldResetPin = s.coldResetPin := rfl
@[simp] theorem raiseInUse_linkOut (k : Fin 8) (s : State) : (raiseInUse k s).linkOut = s.linkOut := rfl
@[simp] theorem raiseInUse_pending (k : Fin 8) (s : State) : (raiseInUse k s).pending = s.pending := rfl
@[simp] theorem raiseInUse_words (k : Fin 8) (s : State) : (raiseInUse k s).rs.words = s.rs.words := rfl
@[simp] theorem raiseInUse_parkList (k : Fin 8) (s : State) : (raiseInUse k s).rs.parkList = s.rs.parkList := rfl
@[simp] theorem raiseInUse_scope (k : Fin 8) (s : State) : (raiseInUse k s).rs.scope = s.rs.scope := rfl
@[simp] theorem raiseInUse_record (k : Fin 8) (s : State) (j : Fin 64) : (raiseInUse k s).record j = s.record j := rfl
@[simp] theorem raiseInUse_head (k : Fin 8) (s : State) (j : Fin 24) : (raiseInUse k s).head j = s.head j := rfl
@[simp] theorem raiseInUse_recipeWord (k : Fin 8) (s : State) (j : Fin 8) (w : Fin 16) : (raiseInUse k s).recipeWord j w = s.recipeWord j w := rfl
@[simp] theorem raiseInUse_position (k : Fin 8) (s : State) (j : Fin 64) : (raiseInUse k s).position j = s.position j := rfl
@[simp] theorem raiseInUse_slotAt (k : Fin 8) (s : State) (p : Nat) : (raiseInUse k s).slotAt p = s.slotAt p := rfl

/-! ### applyParked -/

@[simp] theorem applyParked_lp (f : Fin 8 → Bool) (s : State) : (applyParked f s).lp = s.lp := rfl
@[simp] theorem applyParked_tu (f : Fin 8 → Bool) (s : State) : (applyParked f s).tu = s.tu := rfl
@[simp] theorem applyParked_hu (f : Fin 8 → Bool) (s : State) : (applyParked f s).hu = s.hu := rfl
@[simp] theorem applyParked_vu (f : Fin 8 → Bool) (s : State) : (applyParked f s).vu = s.vu := rfl
@[simp] theorem applyParked_nc (f : Fin 8 → Bool) (s : State) : (applyParked f s).nc = s.nc := rfl
@[simp] theorem applyParked_clock (f : Fin 8 → Bool) (s : State) : (applyParked f s).clock = s.clock := rfl
@[simp] theorem applyParked_coldResetPin (f : Fin 8 → Bool) (s : State) : (applyParked f s).coldResetPin = s.coldResetPin := rfl
@[simp] theorem applyParked_linkOut (f : Fin 8 → Bool) (s : State) : (applyParked f s).linkOut = s.linkOut := rfl
@[simp] theorem applyParked_pending (f : Fin 8 → Bool) (s : State) : (applyParked f s).pending = s.pending := rfl
@[simp] theorem applyParked_inUse (f : Fin 8 → Bool) (s : State) : (applyParked f s).rs.inUse = s.rs.inUse := rfl
@[simp] theorem applyParked_record (f : Fin 8 → Bool) (s : State) (j : Fin 64) : (applyParked f s).record j = s.record j := rfl
@[simp] theorem applyParked_head (f : Fin 8 → Bool) (s : State) (j : Fin 24) : (applyParked f s).head j = s.head j := rfl
@[simp] theorem applyParked_inUseAt (f : Fin 8 → Bool) (s : State) (j : Fin 8) : (applyParked f s).inUse j = s.inUse j := rfl
@[simp] theorem applyParked_position (f : Fin 8 → Bool) (s : State) (j : Fin 64) : (applyParked f s).position j = s.position j := rfl
@[simp] theorem applyParked_slotAt (f : Fin 8 → Bool) (s : State) (p : Nat) : (applyParked f s).slotAt p = s.slotAt p := rfl

/-! ### onTally -/

@[simp] theorem onTally_lp (k : Fin 8) (f : Tally → Tally) (s : State) : (onTally k f s).lp = s.lp := rfl
@[simp] theorem onTally_tu (k : Fin 8) (f : Tally → Tally) (s : State) : (onTally k f s).tu = s.tu := rfl
@[simp] theorem onTally_hu (k : Fin 8) (f : Tally → Tally) (s : State) : (onTally k f s).hu = s.hu := rfl
@[simp] theorem onTally_rs (k : Fin 8) (f : Tally → Tally) (s : State) : (onTally k f s).rs = s.rs := rfl
@[simp] theorem onTally_nc (k : Fin 8) (f : Tally → Tally) (s : State) : (onTally k f s).nc = s.nc := rfl
@[simp] theorem onTally_clock (k : Fin 8) (f : Tally → Tally) (s : State) : (onTally k f s).clock = s.clock := rfl
@[simp] theorem onTally_coldResetPin (k : Fin 8) (f : Tally → Tally) (s : State) : (onTally k f s).coldResetPin = s.coldResetPin := rfl
@[simp] theorem onTally_linkOut (k : Fin 8) (f : Tally → Tally) (s : State) : (onTally k f s).linkOut = s.linkOut := rfl
@[simp] theorem onTally_pending (k : Fin 8) (f : Tally → Tally) (s : State) : (onTally k f s).pending = s.pending := rfl
@[simp] theorem onTally_samples (k : Fin 8) (f : Tally → Tally) (s : State) : (onTally k f s).vu.samples = s.vu.samples := rfl
@[simp] theorem onTally_record (k : Fin 8) (f : Tally → Tally) (s : State) (j : Fin 64) : (onTally k f s).record j = s.record j := rfl
@[simp] theorem onTally_head (k : Fin 8) (f : Tally → Tally) (s : State) (j : Fin 24) : (onTally k f s).head j = s.head j := rfl
@[simp] theorem onTally_recipeWord (k : Fin 8) (f : Tally → Tally) (s : State) (j : Fin 8) (w : Fin 16) : (onTally k f s).recipeWord j w = s.recipeWord j w := rfl
@[simp] theorem onTally_inUseAt (k : Fin 8) (f : Tally → Tally) (s : State) (j : Fin 8) : (onTally k f s).inUse j = s.inUse j := rfl
@[simp] theorem onTally_position (k : Fin 8) (f : Tally → Tally) (s : State) (j : Fin 64) : (onTally k f s).position j = s.position j := rfl
@[simp] theorem onTally_slotAt (k : Fin 8) (f : Tally → Tally) (s : State) (p : Nat) : (onTally k f s).slotAt p = s.slotAt p := rfl

/-! ### leaveTo -/

@[simp] theorem leaveTo_lp (h : Fin 24) (x : HeadState) (s : State) : (leaveTo h x s).lp = s.lp := rfl
@[simp] theorem leaveTo_tu (h : Fin 24) (x : HeadState) (s : State) : (leaveTo h x s).tu = s.tu := rfl
@[simp] theorem leaveTo_vu (h : Fin 24) (x : HeadState) (s : State) : (leaveTo h x s).vu = s.vu := rfl
@[simp] theorem leaveTo_rs (h : Fin 24) (x : HeadState) (s : State) : (leaveTo h x s).rs = s.rs := rfl
@[simp] theorem leaveTo_nc (h : Fin 24) (x : HeadState) (s : State) : (leaveTo h x s).nc = s.nc := rfl
@[simp] theorem leaveTo_clock (h : Fin 24) (x : HeadState) (s : State) : (leaveTo h x s).clock = s.clock := rfl
@[simp] theorem leaveTo_coldResetPin (h : Fin 24) (x : HeadState) (s : State) : (leaveTo h x s).coldResetPin = s.coldResetPin := rfl
@[simp] theorem leaveTo_linkOut (h : Fin 24) (x : HeadState) (s : State) : (leaveTo h x s).linkOut = s.linkOut := rfl
@[simp] theorem leaveTo_pending (h : Fin 24) (x : HeadState) (s : State) : (leaveTo h x s).pending = s.pending := rfl
@[simp] theorem leaveTo_trim (h : Fin 24) (x : HeadState) (s : State) : (leaveTo h x s).hu.trim = s.hu.trim := rfl
@[simp] theorem leaveTo_trimRows (h : Fin 24) (x : HeadState) (s : State) : (leaveTo h x s).hu.trimRows = s.hu.trimRows := rfl
@[simp] theorem leaveTo_record (h : Fin 24) (x : HeadState) (s : State) (j : Fin 64) : (leaveTo h x s).record j = s.record j := rfl
@[simp] theorem leaveTo_recipeWord (h : Fin 24) (x : HeadState) (s : State) (j : Fin 8) (w : Fin 16) : (leaveTo h x s).recipeWord j w = s.recipeWord j w := rfl
@[simp] theorem leaveTo_inUseAt (h : Fin 24) (x : HeadState) (s : State) (j : Fin 8) : (leaveTo h x s).inUse j = s.inUse j := rfl
@[simp] theorem leaveTo_position (h : Fin 24) (x : HeadState) (s : State) (j : Fin 64) : (leaveTo h x s).position j = s.position j := rfl
@[simp] theorem leaveTo_slotAt (h : Fin 24) (x : HeadState) (s : State) (p : Nat) : (leaveTo h x s).slotAt p = s.slotAt p := rfl

/-! ### originForward -/

@[simp] theorem originForward_lp (s : State) : (originForward s).lp = s.lp := rfl
@[simp] theorem originForward_hu (s : State) : (originForward s).hu = s.hu := rfl
@[simp] theorem originForward_vu (s : State) : (originForward s).vu = s.vu := rfl
@[simp] theorem originForward_rs (s : State) : (originForward s).rs = s.rs := rfl
@[simp] theorem originForward_nc (s : State) : (originForward s).nc = s.nc := rfl
@[simp] theorem originForward_clock (s : State) : (originForward s).clock = s.clock := rfl
@[simp] theorem originForward_coldResetPin (s : State) : (originForward s).coldResetPin = s.coldResetPin := rfl
@[simp] theorem originForward_linkOut (s : State) : (originForward s).linkOut = s.linkOut := rfl
@[simp] theorem originForward_pending (s : State) : (originForward s).pending = s.pending := rfl
@[simp] theorem originForward_stations (s : State) : (originForward s).tu.stations = s.tu.stations := rfl
@[simp] theorem originForward_ring (s : State) : (originForward s).tu.ring = s.tu.ring := rfl
@[simp] theorem originForward_origin (s : State) : (originForward s).tu.origin = s.tu.origin - 1 := rfl
@[simp] theorem originForward_nextSerial (s : State) : (originForward s).tu.nextSerial = s.tu.nextSerial := rfl
@[simp] theorem originForward_record (s : State) (j : Fin 64) : (originForward s).record j = s.record j := rfl
@[simp] theorem originForward_head (s : State) (j : Fin 24) : (originForward s).head j = s.head j := rfl
@[simp] theorem originForward_recipeWord (s : State) (j : Fin 8) (w : Fin 16) : (originForward s).recipeWord j w = s.recipeWord j w := rfl
@[simp] theorem originForward_inUseAt (s : State) (j : Fin 8) : (originForward s).inUse j = s.inUse j := rfl

/-! ### originReverse -/

@[simp] theorem originReverse_lp (s : State) : (originReverse s).lp = s.lp := rfl
@[simp] theorem originReverse_hu (s : State) : (originReverse s).hu = s.hu := rfl
@[simp] theorem originReverse_vu (s : State) : (originReverse s).vu = s.vu := rfl
@[simp] theorem originReverse_rs (s : State) : (originReverse s).rs = s.rs := rfl
@[simp] theorem originReverse_nc (s : State) : (originReverse s).nc = s.nc := rfl
@[simp] theorem originReverse_clock (s : State) : (originReverse s).clock = s.clock := rfl
@[simp] theorem originReverse_coldResetPin (s : State) : (originReverse s).coldResetPin = s.coldResetPin := rfl
@[simp] theorem originReverse_linkOut (s : State) : (originReverse s).linkOut = s.linkOut := rfl
@[simp] theorem originReverse_pending (s : State) : (originReverse s).pending = s.pending := rfl
@[simp] theorem originReverse_stations (s : State) : (originReverse s).tu.stations = s.tu.stations := rfl
@[simp] theorem originReverse_ring (s : State) : (originReverse s).tu.ring = s.tu.ring := rfl
@[simp] theorem originReverse_origin (s : State) : (originReverse s).tu.origin = s.tu.origin + 1 := rfl
@[simp] theorem originReverse_nextSerial (s : State) : (originReverse s).tu.nextSerial = s.tu.nextSerial := rfl
@[simp] theorem originReverse_record (s : State) (j : Fin 64) : (originReverse s).record j = s.record j := rfl
@[simp] theorem originReverse_head (s : State) (j : Fin 24) : (originReverse s).head j = s.head j := rfl
@[simp] theorem originReverse_recipeWord (s : State) (j : Fin 8) (w : Fin 16) : (originReverse s).recipeWord j w = s.recipeWord j w := rfl
@[simp] theorem originReverse_inUseAt (s : State) (j : Fin 8) : (originReverse s).inUse j = s.inUse j := rfl

/-! ### exitAtX -/

@[simp] theorem exitAtX_lp (s : State) : (exitAtX s).lp = s.lp := rfl
@[simp] theorem exitAtX_hu (s : State) : (exitAtX s).hu = s.hu := rfl
@[simp] theorem exitAtX_vu (s : State) : (exitAtX s).vu = s.vu := rfl
@[simp] theorem exitAtX_rs (s : State) : (exitAtX s).rs = s.rs := rfl
@[simp] theorem exitAtX_nc (s : State) : (exitAtX s).nc = s.nc := rfl
@[simp] theorem exitAtX_clock (s : State) : (exitAtX s).clock = s.clock := rfl
@[simp] theorem exitAtX_coldResetPin (s : State) : (exitAtX s).coldResetPin = s.coldResetPin := rfl
@[simp] theorem exitAtX_linkOut (s : State) : (exitAtX s).linkOut = s.linkOut := rfl
@[simp] theorem exitAtX_pending (s : State) : (exitAtX s).pending = s.pending := rfl
@[simp] theorem exitAtX_stations (s : State) : (exitAtX s).tu.stations = s.tu.stations := rfl
@[simp] theorem exitAtX_origin (s : State) : (exitAtX s).tu.origin = s.tu.origin := rfl
@[simp] theorem exitAtX_nextSerial (s : State) : (exitAtX s).tu.nextSerial = s.tu.nextSerial := rfl
@[simp] theorem exitAtX_head (s : State) (j : Fin 24) : (exitAtX s).head j = s.head j := rfl
@[simp] theorem exitAtX_recipeWord (s : State) (j : Fin 8) (w : Fin 16) : (exitAtX s).recipeWord j w = s.recipeWord j w := rfl
@[simp] theorem exitAtX_inUseAt (s : State) (j : Fin 8) : (exitAtX s).inUse j = s.inUse j := rfl
@[simp] theorem exitAtX_position (s : State) (j : Fin 64) : (exitAtX s).position j = s.position j := rfl
@[simp] theorem exitAtX_slotAt (s : State) (p : Nat) : (exitAtX s).slotAt p = s.slotAt p := rfl

/-! ### adopt -/

@[simp] theorem adopt_tu (f : IndexFrame) (s : State) : (adopt f s).tu = s.tu := rfl
@[simp] theorem adopt_hu (f : IndexFrame) (s : State) : (adopt f s).hu = s.hu := rfl
@[simp] theorem adopt_vu (f : IndexFrame) (s : State) : (adopt f s).vu = s.vu := rfl
@[simp] theorem adopt_rs (f : IndexFrame) (s : State) : (adopt f s).rs = s.rs := rfl
@[simp] theorem adopt_nc (f : IndexFrame) (s : State) : (adopt f s).nc = s.nc := rfl
@[simp] theorem adopt_clock (f : IndexFrame) (s : State) : (adopt f s).clock = s.clock := rfl
@[simp] theorem adopt_coldResetPin (f : IndexFrame) (s : State) : (adopt f s).coldResetPin = s.coldResetPin := rfl
@[simp] theorem adopt_linkOut (f : IndexFrame) (s : State) : (adopt f s).linkOut = s.linkOut := rfl
@[simp] theorem adopt_pending (f : IndexFrame) (s : State) : (adopt f s).pending = s.pending := rfl
@[simp] theorem adopt_transit (f : IndexFrame) (s : State) : (adopt f s).lp.transit = s.lp.transit := rfl
@[simp] theorem adopt_queue (f : IndexFrame) (s : State) : (adopt f s).lp.queue = s.lp.queue := rfl
@[simp] theorem adopt_candidate (f : IndexFrame) (s : State) : (adopt f s).lp.candidate = s.lp.candidate := rfl
@[simp] theorem adopt_lastCount (f : IndexFrame) (s : State) : (adopt f s).lp.lastCount = f.count := rfl
@[simp] theorem adopt_lastPhase (f : IndexFrame) (s : State) : (adopt f s).lp.lastPhase = f.phase := rfl
@[simp] theorem adopt_unchecked (f : IndexFrame) (s : State) : (adopt f s).lp.unchecked = false := rfl
@[simp] theorem adopt_gapTimer (f : IndexFrame) (s : State) : (adopt f s).lp.gapTimer = s.lp.gapTimer := rfl
@[simp] theorem adopt_gapLimit (f : IndexFrame) (s : State) : (adopt f s).lp.gapLimit = s.lp.gapLimit := rfl
@[simp] theorem adopt_nodeAddress (f : IndexFrame) (s : State) : (adopt f s).lp.nodeAddress = s.lp.nodeAddress := rfl
@[simp] theorem adopt_record (f : IndexFrame) (s : State) (j : Fin 64) : (adopt f s).record j = s.record j := rfl
@[simp] theorem adopt_head (f : IndexFrame) (s : State) (j : Fin 24) : (adopt f s).head j = s.head j := rfl
@[simp] theorem adopt_recipeWord (f : IndexFrame) (s : State) (j : Fin 8) (w : Fin 16) : (adopt f s).recipeWord j w = s.recipeWord j w := rfl
@[simp] theorem adopt_inUseAt (f : IndexFrame) (s : State) (j : Fin 8) : (adopt f s).inUse j = s.inUse j := rfl
@[simp] theorem adopt_position (f : IndexFrame) (s : State) (j : Fin 64) : (adopt f s).position j = s.position j := rfl
@[simp] theorem adopt_slotAt (f : IndexFrame) (s : State) (p : Nat) : (adopt f s).slotAt p = s.slotAt p := rfl

end Sys2Proof.Machine
end

