-- ==== Sys2Proof/Laws/Ops.lean ====
section
/-! SUPPORT. What the shared operations of Ops.lean read back and do, each said once: the tables' reads after a write, the
writer's rule, the unbinding, the queuing of a command, the trip request, and what no operation inside a frame touches. -/

namespace Sys2Proof.Machine

/-! ### Reads after writes -/

theorem record_setRecord (s : State) (k j : Fin 64) (r : Record) :
    (s.setRecord k r).record j = if j = k then r else s.record j := by
  simp only [State.record, State.setRecord, Fin.getElem_fin, Vector.getElem_set]
  by_cases h : j = k
  · simp [h]
  · have : ¬ k.val = j.val := fun e => h (Fin.ext e.symm)
    simp [h, this]

@[simp] theorem record_setRecord_self (s : State) (k : Fin 64) (r : Record) : (s.setRecord k r).record k = r := by
  simp [record_setRecord]

theorem record_setRecord_ne {j k : Fin 64} (h : j ≠ k) (s : State) (r : Record) :
    (s.setRecord k r).record j = s.record j := by simp [record_setRecord, h]

theorem head_setHead (s : State) (h j : Fin 24) (c : HeadContext) :
    (s.setHead h c).head j = if j = h then c else s.head j := by
  simp only [State.head, State.setHead, Fin.getElem_fin, Vector.getElem_set]
  by_cases e : j = h
  · simp [e]
  · have : ¬ h.val = j.val := fun x => e (Fin.ext x.symm)
    simp [e, this]

@[simp] theorem head_setHead_self (s : State) (h : Fin 24) (c : HeadContext) : (s.setHead h c).head h = c := by
  simp [head_setHead]

theorem head_setHead_ne {j h : Fin 24} (e : j ≠ h) (s : State) (c : HeadContext) :
    (s.setHead h c).head j = s.head j := by simp [head_setHead, e]

theorem head_leaveTo (s : State) (h j : Fin 24) (x : HeadState) :
    (leaveTo h x s).head j = if j = h then { s.head h with state := x, timer := none } else s.head j :=
  head_setHead s h j _

/-! ### The writer's rule (R7, R9) -/

theorem writeLoaded_named {l : Link} {s : State} (h : s.namesLoaded l = true) (f : Record → Record) :
    writeLoaded l f s = s.setRecord l.slot (f (s.record l.slot)) := by simp [writeLoaded, h]

theorem writeLoaded_unnamed {l : Link} {s : State} (h : s.namesLoaded l = false) (f : Record → Record) :
    writeLoaded l f s = s := by simp [writeLoaded, h]

/-- A writer touches only the LOADED record its link names. -/
theorem record_writeLoaded (l : Link) (f : Record → Record) (s : State) (j : Fin 64) :
    (writeLoaded l f s).record j =
      if j = l.slot ∧ s.namesLoaded l = true then f (s.record l.slot) else s.record j := by
  unfold writeLoaded
  by_cases h : s.namesLoaded l = true <;> by_cases e : j = l.slot <;> simp [h, e, record_setRecord]

/-- A writer changes the ring and nothing else. -/
theorem writeLoaded_ring (l : Link) (f : Record → Record) (s : State) :
    writeLoaded l f s = { s with tu.ring := (writeLoaded l f s).tu.ring } := by
  unfold writeLoaded; split <;> rfl

@[simp] theorem writeLoaded_head (l : Link) (f : Record → Record) (s : State) (h : Fin 24) :
    (writeLoaded l f s).head h = s.head h := by unfold writeLoaded; split <;> rfl

@[simp] theorem writeLoaded_lp (l : Link) (f : Record → Record) (s : State) : (writeLoaded l f s).lp = s.lp := by
  unfold writeLoaded; split <;> rfl

@[simp] theorem writeLoaded_hu (l : Link) (f : Record → Record) (s : State) : (writeLoaded l f s).hu = s.hu := by
  unfold writeLoaded; split <;> rfl

@[simp] theorem writeLoaded_nc (l : Link) (f : Record → Record) (s : State) : (writeLoaded l f s).nc = s.nc := by
  unfold writeLoaded; split <;> rfl

@[simp] theorem writeLoaded_vu (l : Link) (f : Record → Record) (s : State) : (writeLoaded l f s).vu = s.vu := by
  unfold writeLoaded; split <;> rfl

@[simp] theorem writeLoaded_rs (l : Link) (f : Record → Record) (s : State) : (writeLoaded l f s).rs = s.rs := by
  unfold writeLoaded; split <;> rfl

@[simp] theorem writeLoaded_origin (l : Link) (f : Record → Record) (s : State) :
    (writeLoaded l f s).tu.origin = s.tu.origin := by unfold writeLoaded; split <;> rfl

@[simp] theorem writeLoaded_stations (l : Link) (f : Record → Record) (s : State) :
    (writeLoaded l f s).tu.stations = s.tu.stations := by unfold writeLoaded; split <;> rfl

/-! ### Unbinding (R37) -/

/-- Unbinding in a record-update form: the head's links, and the bound flag of the record it named. -/
theorem unbind_bound {h : Fin 24} {l : Link} {s : State} (e : (s.head h).bound = some l) :
    unbind h s = writeLoaded l (fun r => { r with bound := false })
      (s.setHead h { s.head h with bound := none, trailing := some l }) := by simp [unbind, e]

theorem unbind_free {h : Fin 24} {s : State} (e : (s.head h).bound = none) : unbind h s = s := by simp [unbind, e]

/-- The contexts after an unbinding. -/
theorem head_unbind (h j : Fin 24) (s : State) :
    (unbind h s).head j = if j = h ∧ (s.head h).bound.isSome = true
      then { s.head h with bound := none, trailing := (s.head h).bound } else s.head j := by
  cases e : (s.head h).bound with
  | none => simp [unbind_free e]
  | some l => by_cases x : j = h <;> simp [unbind_bound e, head_setHead, x]

/-! ### The trip request and the queuing of a command (R146, R136) -/

theorem requestTrip_working {s : State} (h : s.working) (c : TripCause) : requestTrip c s = tripEntry c s := by
  rcases h with h | h <;> simp [requestTrip, h]

theorem requestTrip_trip {s : State} (h : s.nc.mode = .trip) (c : TripCause) :
    requestTrip c s = raiseAlert c.alert s := by simp [requestTrip, h]

theorem requestTrip_standby {s : State} (h : s.nc.mode = .standby) {c : TripCause} (e : c ≠ .trackLost) :
    requestTrip c s = raiseAlert c.alert s := by simp [requestTrip, h, e]

/-- With room after the removals, queuing a command changes the queue alone. -/
theorem queueCommand_room {c : HeadCommand} {s : State} (h : (s.lp.queue.filter (keepsCommand c)).length < 48) :
    queueCommand c s = { s with lp.queue := s.lp.queue.filter (keepsCommand c) ++ [c] } := by
  simp [queueCommand, h]

/-- With 48 commands left after the removals, it asks for the trip. -/
theorem queueCommand_full {c : HeadCommand} {s : State} (h : 48 ≤ (s.lp.queue.filter (keepsCommand c)).length) :
    queueCommand c s = requestTrip .queueFull { s with lp.queue := s.lp.queue.filter (keepsCommand c) } := by
  simp [queueCommand, Nat.not_lt.mpr h]

/-- An ABORT removes every queued command of its head. -/
theorem keepsCommand_abort (h : Fin 24) (a : Word) (d : HeadCommand) : keepsCommand ⟨h, .abort, a⟩ d = (d.head != h) := rfl

/-- A CLOSE removes a queued OPEN of its head. -/
theorem keepsCommand_close (h : Fin 24) (a : Word) (d : HeadCommand) :
    keepsCommand ⟨h, .closeGas, a⟩ d = !(d.head == h && d.kind == .openGas) := rfl

theorem abortHead_eq (h : Fin 24) (c : Cause) (s : State) :
    abortHead h c s = queueCommand ⟨h, .abort, 0⟩ (leaveTo h .aborting (unbind h (addBoundCause h c s))) := rfl

/-! ### Alerts and causes -/

theorem hasAlert_addAlert (a b : AlertKind) (x : AlertSet) : hasAlert a (addAlert b x) = (hasAlert a x || a == b) := by
  cases a <;> cases b <;> simp [hasAlert, addAlert, AlertKind.place]

theorem hasCause_addCause (a b : Cause) (x : CauseSet) : hasCause a (addCause b x) = (hasCause a x || a == b) := by
  cases a <;> cases b <;> simp [hasCause, addCause, Cause.place]

end Sys2Proof.Machine
end

