-- ==== Sys2Proof/Laws/Fixed.lean ====
section
/-! SUPPORT. What no operation inside a frame touches: the clock, the pin, what has left, what waits, the frames in transit,
the gap timer, GAP_LIMIT, the node address, the station table and the Trim Table. One lemma per operation. -/

namespace Sys2Proof.Machine

/-- The parts of the state that no operation on heads, records, recipes and verdicts writes. -/
def State.fixed (s : State) :=
  (s.clock, s.coldResetPin, s.linkOut, s.pending, s.lp.transit, s.lp.gapTimer, s.lp.gapLimit, s.lp.nodeAddress,
    s.tu.stations, s.hu.trim, s.hu.trimRows)

theorem foldl_fixed {α : Type} {f : State → α → State} (hf : ∀ s x, (f s x).fixed = s.fixed) (xs : List α) (s : State) :
    (xs.foldl f s).fixed = s.fixed := by
  induction xs generalizing s with
  | nil => rfl
  | cons x xs ih => simp [ih, hf]

@[simp] theorem setRecord_fixed (k : Fin 64) (r : Record) (s : State) : (s.setRecord k r).fixed = s.fixed := rfl
@[simp] theorem setHead_fixed (h : Fin 24) (c : HeadContext) (s : State) : (s.setHead h c).fixed = s.fixed := rfl
@[simp] theorem raiseAlert_fixed (a : AlertKind) (s : State) : (raiseAlert a s).fixed = s.fixed := rfl
@[simp] theorem reportRing_fixed (s : State) : (reportRing s).fixed = s.fixed := rfl
@[simp] theorem raiseInUse_fixed (k : Fin 8) (s : State) : (raiseInUse k s).fixed = s.fixed := rfl
@[simp] theorem applyParked_fixed (f : Fin 8 → Bool) (s : State) : (applyParked f s).fixed = s.fixed := rfl
@[simp] theorem enterStandby_fixed (s : State) : (enterStandby s).fixed = s.fixed := rfl
@[simp] theorem onTally_fixed (k : Fin 8) (f : Tally → Tally) (s : State) : (onTally k f s).fixed = s.fixed := rfl
@[simp] theorem leaveTo_fixed (h : Fin 24) (x : HeadState) (s : State) : (leaveTo h x s).fixed = s.fixed := rfl
@[simp] theorem originForward_fixed (s : State) : (originForward s).fixed = s.fixed := rfl
@[simp] theorem originReverse_fixed (s : State) : (originReverse s).fixed = s.fixed := rfl
@[simp] theorem exitAtX_fixed (s : State) : (exitAtX s).fixed = s.fixed := rfl
@[simp] theorem adopt_fixed (f : IndexFrame) (s : State) : (adopt f s).fixed = s.fixed := rfl

@[simp] theorem raiseAlertIf_fixed (a : Option AlertKind) (s : State) : (raiseAlertIf a s).fixed = s.fixed := by
  cases a <;> rfl

@[simp] theorem writeLoaded_fixed (l : Link) (f : Record → Record) (s : State) : (writeLoaded l f s).fixed = s.fixed := by
  unfold writeLoaded; split <;> rfl

@[simp] theorem addCauseTo_fixed (l : Link) (c : Cause) (s : State) : (addCauseTo l c s).fixed = s.fixed := by
  simp [addCauseTo]

@[simp] theorem addBoundCause_fixed (h : Fin 24) (c : Cause) (s : State) : (addBoundCause h c s).fixed = s.fixed := by
  unfold addBoundCause; split <;> simp

@[simp] theorem lowerInUse_fixed (k : Fin 8) (s : State) : (lowerInUse k s).fixed = s.fixed := by
  unfold lowerInUse; dsimp only; split <;> rfl

@[simp] theorem rearm_fixed (q : SampleRequest) (s : State) : (rearm q s).fixed = s.fixed := by
  unfold rearm; split <;> rfl

@[simp] theorem rearmIf_fixed (q : Option SampleRequest) (s : State) : (rearmIf q s).fixed = s.fixed := by
  cases q <;> simp [rearmIf]

@[simp] theorem unbind_fixed (h : Fin 24) (s : State) : (unbind h s).fixed = s.fixed := by
  unfold unbind; split <;> simp

@[simp] theorem tripHead_fixed (s : State) (h : Fin 24) : (tripHead s h).fixed = s.fixed := by
  unfold tripHead; split <;> simp

@[simp] theorem tripEntry_fixed (c : TripCause) (s : State) : (tripEntry c s).fixed = s.fixed := by
  have step (t : State) (q : List HeadCommand) (v : Vector HeadContext 24) :
      State.fixed { t with lp.queue := q, hu.heads := v } = t.fixed := rfl
  unfold tripEntry
  rw [step, foldl_fixed tripHead_fixed]
  rfl

@[simp] theorem requestTrip_fixed (c : TripCause) (s : State) : (requestTrip c s).fixed = s.fixed := by
  unfold requestTrip; split <;> first | simp | (split <;> simp)

@[simp] theorem queueCommand_fixed (c : HeadCommand) (s : State) : (queueCommand c s).fixed = s.fixed := by
  unfold queueCommand; dsimp only; split
  · rfl
  · rw [requestTrip_fixed]; rfl

@[simp] theorem queueKind_fixed (h : Fin 24) (k : CommandKind) (s : State) : (queueKind h k s).fixed = s.fixed := by
  simp [queueKind]

@[simp] theorem bindHead_fixed (h : Fin 24) (k : Fin 64) (s : State) : (bindHead h k s).fixed = s.fixed := rfl

@[simp] theorem abortHead_fixed (h : Fin 24) (c : Cause) (s : State) : (abortHead h c s).fixed = s.fixed := by
  simp [abortHead]

@[simp] theorem openCharge_fixed (h : Fin 24) (l : Link) (s : State) : (openCharge h l s).fixed = s.fixed := by
  simp [openCharge]

@[simp] theorem openIfReady_fixed (h : Fin 24) (s : State) : (openIfReady h s).fixed = s.fixed := by
  unfold openIfReady; split
  · split <;> simp
  · rfl

@[simp] theorem sendCrimp_fixed (h : Fin 24) (s : State) : (sendCrimp h s).fixed = s.fixed := by
  unfold sendCrimp; split
  · split <;> simp
  · rfl

@[simp] theorem endCharge_fixed (h : Fin 24) (s : State) : (endCharge h s).fixed = s.fixed := by simp [endCharge]

@[simp] theorem engagementArrival_fixed (φ : Fin 24) (k : Fin 64) (s : State) :
    (engagementArrival φ k s).fixed = s.fixed := by
  unfold engagementArrival; dsimp only; split
  · rfl
  · split
    · split <;> simp
    · simp

@[simp] theorem clampWaitArrival_fixed (h : Fin 24) (r : Record) (p : Nat) (s : State) :
    (clampWaitArrival h r p s).fixed = s.fixed := by
  unfold clampWaitArrival; dsimp only; split <;> simp

@[simp] theorem releaseArrival_fixed (h : Fin 24) (k : Fin 64) (s : State) : (releaseArrival h k s).fixed = s.fixed := by
  simp [releaseArrival]

@[simp] theorem turretArrival_fixed (h : Fin 24) (k : Fin 64) (p : Nat) (s : State) :
    (turretArrival h k p s).fixed = s.fixed := by
  unfold turretArrival; split
  · simp
  · split <;> first | simp | (split <;> simp)

@[simp] theorem forwardArrival_fixed (φ : Fin 24) (s : State) (p : Nat) : (forwardArrival φ s p).fixed = s.fixed := by
  unfold forwardArrival; dsimp only; split
  · split
    · simp
    · split <;> simp
  · rfl

@[simp] theorem forwardArrivals_fixed (φ : Fin 24) (s : State) : (forwardArrivals φ s).fixed = s.fixed :=
  foldl_fixed (forwardArrival_fixed φ) _ _

@[simp] theorem jogBackArrival_fixed (s : State) : (jogBackArrival s).fixed = s.fixed := by
  unfold jogBackArrival; dsimp only; split
  · split
    · split <;> simp
    · rfl
  · rfl

@[simp] theorem giveVerdict_fixed (k : Fin 64) (s : State) : (giveVerdict k s).fixed = s.fixed := by
  unfold giveVerdict; dsimp only; split <;> simp

@[simp] theorem gateArrival_fixed (s : State) : (gateArrival s).fixed = s.fixed := by
  unfold gateArrival; split
  · split <;> simp
  · rfl

@[simp] theorem feed_fixed (φ : Fin 24) (c : Candidate) (p : Fin 16) (s : State) : (feed φ c p s).fixed = s.fixed := rfl

@[simp] theorem admission_fixed (φ : Fin 24) (s : State) : (admission φ s).2.fixed = s.fixed := by
  unfold admission; split
  · split <;> simp
  · rfl

@[simp] theorem backOut_fixed (s : State) : (backOut s).fixed = s.fixed := by
  unfold backOut; dsimp only; split <;> simp

@[simp] theorem endDrain_fixed (s : State) : (endDrain s).fixed = s.fixed := by unfold endDrain; split <;> simp

@[simp] theorem takeAdvance_fixed (a : Advance) (φ : Fin 24) (s : State) : (takeAdvance a φ s).2.fixed = s.fixed := by
  cases a <;> simp [takeAdvance, forwardAdvance, reverseAdvance, dwellAdvance]

@[simp] theorem turretCheck_fixed (f : IndexFrame) (s : State) : (turretCheck f s).fixed = s.fixed := by
  unfold turretCheck; split <;> simp

@[simp] theorem takeVent_fixed (v : Bool) (s : State) : (takeVent v s).fixed = s.fixed := by
  unfold takeVent; split <;> simp

@[simp] theorem eventMove_fixed (h : Fin 24) (k : EventKind) (s : State) : (eventMove h k s).fixed = s.fixed := by
  unfold eventMove; split <;> first | rfl | (split <;> simp)

@[simp] theorem faultEvent_fixed (h : Fin 24) (s : State) : (faultEvent h s).fixed = s.fixed := by
  unfold faultEvent; dsimp only; split <;> simp

@[simp] theorem takeEvent_fixed (w : Word) (k : Option EventKind) (lag : Word) (s : State) :
    (takeEvent w k lag s).fixed = s.fixed := by
  unfold takeEvent; split <;> try simp
  unfold headEvent; split <;> simp

@[simp] theorem headFlow_fixed (h : Fin 24) (n : Nat) (s : State) : (headFlow h n s).fixed = s.fixed := by
  unfold headFlow addPulses; split
  · simp
  · dsimp only
    split
    · split <;> simp
    · simp

@[simp] theorem takeFlow_fixed (w : Word) (n : BitVec 8) (s : State) : (takeFlow w n s).fixed = s.fixed := by
  unfold takeFlow; split <;> simp

@[simp] theorem takeMeasure_fixed (k : Option MeasureKind) (ok : Bool) (a b v : Word) (s : State) :
    (takeMeasure k ok a b v s).fixed = s.fixed := by
  unfold takeMeasure; split <;> try simp
  unfold deliverMeasure; dsimp only; split
  · split <;> simp
  · split <;> simp

@[simp] theorem takeReport_fixed (s : State) (r : Report) : (takeReport s r).fixed = s.fixed := by
  cases r <;> simp [takeReport]; rfl

@[simp] theorem frameLossHead_fixed (s : State) (h : Fin 24) : (frameLossHead s h).fixed = s.fixed := by
  unfold frameLossHead; split <;> simp

@[simp] theorem frameLoss_fixed (s : State) : (frameLoss s).fixed = s.fixed := foldl_fixed frameLossHead_fixed _ _

@[simp] theorem chargeExpiry_fixed (h : Fin 24) (s : State) : (chargeExpiry h s).fixed = s.fixed := by
  simp [chargeExpiry]

@[simp] theorem commandDeparts_fixed (s : State) (c : HeadCommand) : (commandDeparts s c).fixed = s.fixed := by
  unfold commandDeparts; split
  · unfold armTimer; split <;> simp
  · unfold abortDeparts; split <;> simp
  all_goals rfl

@[simp] theorem enableHead_fixed (s : State) (h : Fin 24) : (enableHead s h).fixed = s.fixed := rfl

@[simp] theorem disableHead_fixed (s : State) (h : Fin 24) : (disableHead s h).fixed = s.fixed := rfl

@[simp] theorem stopHead_fixed (s : State) (h : Fin 24) : (stopHead s h).fixed = s.fixed := by
  unfold stopHead; dsimp only; split <;> simp

@[simp] theorem stopHeads_fixed (hs : List (Fin 24)) (s : State) : (stopHeads hs s).2.fixed = s.fixed := by
  induction hs generalizing s with
  | nil => rfl
  | cons h hs ih => simp [stopHeads, ih]

/-- The operations that change the table's rows of one head or record keep the rest: reading `fixed` part by part. -/
theorem fixed_parts {s t : State} (h : t.fixed = s.fixed) :
    t.clock = s.clock ∧ t.coldResetPin = s.coldResetPin ∧ t.linkOut = s.linkOut ∧ t.pending = s.pending ∧
      t.lp.transit = s.lp.transit ∧ t.lp.gapTimer = s.lp.gapTimer ∧ t.lp.gapLimit = s.lp.gapLimit ∧
      t.lp.nodeAddress = s.lp.nodeAddress ∧ t.tu.stations = s.tu.stations ∧ t.hu.trim = s.hu.trim ∧
      t.hu.trimRows = s.hu.trimRows := by
  simpa [State.fixed, Prod.ext_iff] using h

end Sys2Proof.Machine
end

