-- ==== Sys2Proof/Laws/Frames.lean ====
section
/-! SUPPORT. What the arrival of a frame does by the part's mode, and the route of a request from its SERVICE frame to the
rule that owns it. -/

namespace Sys2Proof.Machine

/-! ### The check word -/

theorem checkMatches_withCheck (ws : List Word) : checkMatches (withCheck ws) = true := by simp [checkMatches, withCheck]

/-- A SERVICE frame's words are read back whole (R164). -/
theorem classify_serviceWords (f : ServiceFrame) : classify (serviceWords f) = .service f := by
  have tag : (f.tag.setWidth 16).extractLsb' 0 8 = f.tag := by ext i hi; simp [hi]; omega
  unfold classify serviceWords
  rw [checkMatches_withCheck]
  simp only [withCheck, frameWord, decodeService, List.cons_append, List.nil_append, List.length_cons, List.length_nil,
    List.getD_cons_zero, List.getD_cons_succ, tag]
  rfl

/-! ### Bypass -/

theorem bypassed_false {s : State} (h : s.bypassed = false) : s.linkHeld = false ∧ s.nc.mode ≠ .waitSync := by
  simpa [State.bypassed] using h

theorem ready_awake {s : State} (h : s.ready) : s.linkHeld = false ∧ s.nc.mode ≠ .waitSync := bypassed_false h.1

theorem frameArrival_held {s : State} (h : s.linkHeld = true) (ws : List Word) : frameArrival ws s = passBypass ws s := by
  simp [frameArrival, h]

theorem frameArrival_wait {s : State} (h : s.linkHeld = false) (m : s.nc.mode = .waitSync) (ws : List Word) :
    frameArrival ws s = waitArrival ws s := by simp [frameArrival, h, m]

theorem frameArrival_awake {s : State} (h : s.bypassed = false) (ws : List Word) :
    frameArrival ws s = awakeArrival ws s := by
  obtain ⟨a, b⟩ := bypassed_false h
  simp [frameArrival, a, b]

/-- In bypass a frame leaves at once when no other is in transit, and else waits behind it. -/
theorem passBypass_eq (ws : List Word) (s : State) :
    passBypass ws s = if s.lp.transit = [] then { s with linkOut := s.linkOut ++ [ws] }
      else { s with lp.transit := s.lp.transit ++ [.unchanged ws] } := by
  unfold passBypass sendOut putTransit
  cases s.lp.transit <;> rfl

/-! ### Each class out of bypass -/

theorem awake_damaged {ws : List Word} (h : classify ws = .damaged) (s : State) :
    awakeArrival ws s = takeDamaged ws (restartGap s) := by simp [awakeArrival, h]

theorem awake_unknown {ws : List Word} (h : classify ws = .unknown) (s : State) :
    awakeArrival ws s = putTransit (.unchanged ws) (restartGap s) := by simp [awakeArrival, h]

theorem awake_index {ws : List Word} {f : IndexFrame} (h : classify ws = .index f) (s : State) :
    awakeArrival ws s = takeIndex f ws (restartGap s) := by simp [awakeArrival, h]

theorem awake_report {ws : List Word} {f : ReportFrame} (h : classify ws = .report f) (s : State) :
    awakeArrival ws s = takeReportFrame f ws (restartGap s) := by simp [awakeArrival, h]

theorem awake_carrier {ws : List Word} {v : Bool} (h : classify ws = .carrier v) (s : State) :
    awakeArrival ws s = takeCarrier v ws (restartGap s) := by simp [awakeArrival, h]

theorem awake_reply {ws : List Word} (h : classify ws = .reply) (s : State) :
    awakeArrival ws s = putTransit (.unchanged ws) (restartGap s) := by simp [awakeArrival, h]

theorem awake_service {ws : List Word} {f : ServiceFrame} (h : classify ws = .service f) (s : State) :
    awakeArrival ws s = if s.addressed f then serviceArrival f (restartGap s)
      else putTransit (.unchanged ws) (restartGap s) := by
  unfold awakeArrival; rw [h]; rfl

/-! ### Requests -/

theorem requestFrame_addressed (s : State) (code : Word) (tag : BitVec 8) (a b c : Word) :
    s.addressed (s.requestFrame code tag a b c) = true := by simp [State.addressed, State.requestFrame]

/-- Out of bypass a request command restarts the frame gap timer and is taken by NC. -/
theorem requestArrival_awake {s : State} (h : s.bypassed = false) (code : Word) (tag : BitVec 8) (a b c : Word) :
    requestArrival code tag a b c s = serviceArrival (s.requestFrame code tag a b c) (restartGap s) := by
  rw [requestArrival, frameArrival_awake h, awake_service (classify_serviceWords _), requestFrame_addressed]
  rfl

/-- In WAIT_SYNC a request command is taken by NC, and the frame gap timer does not run. -/
theorem requestArrival_wait {s : State} (h : s.linkHeld = false) (m : s.nc.mode = .waitSync) (code : Word)
    (tag : BitVec 8) (a b c : Word) :
    requestArrival code tag a b c s = serviceArrival (s.requestFrame code tag a b c) s := by
  rw [requestArrival, frameArrival_wait h m, waitArrival, classify_serviceWords]
  simp [requestFrame_addressed]

/-- NC's order of checks (R154), each case once. -/
theorem takeRequest_notAwake {s : State} (m : s.nc.mode = .waitSync) {q : Request} (h : q ≠ .sync) :
    takeRequest q s = ({ status := .notAwake }, { s with nc.wakeCount := 0 }) := by simp [takeRequest, m, h, refuse]

theorem takeRequest_wake {s : State} (m : s.nc.mode = .waitSync) : takeRequest .sync s = wakeSync s := by
  simp [takeRequest, m]

theorem takeRequest_busy {s : State} (m : s.nc.mode ≠ .waitSync) (b : s.nc.busy.running = true) {q : Request}
    (h : q ≠ .status) : takeRequest q s = ({ status := .busy }, s) := by simp [takeRequest, m, b, h, refuse]

theorem takeRequest_owned {s : State} (m : s.nc.mode ≠ .waitSync) {q : Request}
    (h : s.nc.busy.running = false ∨ q = .status) : takeRequest q s = takeOwned q s := by
  rcases h with h | h <;> simp [takeRequest, m, h]

theorem running_idle : BusyOp.idle.running = false := rfl

theorem running_of_ne {b : BusyOp} (h : b ≠ .idle) : b.running = true := by cases b <;> simp_all [BusyOp.running]

/-- A request command when the part is ready: the rule that owns the request answers, and the REPLY joins the frames in
transit. -/
theorem requestArrival_ready {s : State} (h : s.ready) (code : Word) (tag : BitVec 8) (a b c : Word) (q : Request)
    (e : (s.requestFrame code tag a b c).request = q) :
    requestArrival code tag a b c s =
      putTransit (s.replyFrame code tag (takeOwned q (restartGap s)).1) (takeOwned q (restartGap s)).2 := by
  have own : takeRequest q (restartGap s) = takeOwned q (restartGap s) :=
    takeRequest_owned (s := restartGap s) (ready_awake h).2
      (.inl ((congrArg BusyOp.running h.2).trans running_idle))
  rw [requestArrival_awake h.1, serviceArrival, e, own]
  rfl

/-- The REPLY of an answer, in the form the claims use. -/
theorem replyLead_eq (s : State) (code : Word) (tag : BitVec 8) (a b c : Word) (x : Answer) :
    TransitFrame.reply (replyLead s.lp.nodeAddress (s.requestFrame code tag a b c) x) = s.replyFrame code tag x := rfl

end Sys2Proof.Machine
end

