-- ==== Sys2Proof/WellFormed.lean ====
section
/-! DEFINITION. When a command's operands are of the class its row names: the words of a frame command must be a
frame of that class (R125, R128). The other operands are words whose every value the part answers (R154). -/

namespace Sys2Proof

/-- The words have the class the row names (log entry 1). FOREIGN_FRAME and SERVICE_FRAME are told apart by the
node address, which is state, so here they ask for a SERVICE or REPLY frame. -/
def Instr.wellFormed : Instr → Bool
  | .coldReset => true
  | .coldResetRelease _ => true
  | .indexFrame ws => match Machine.classify ws with | .index _ => true | _ => false
  | .reportFrame ws => match Machine.classify ws with | .report _ => true | _ => false
  | .carrierFrame ws => match Machine.classify ws with | .carrier _ => true | _ => false
  | .serviceFrame ws => match Machine.classify ws with | .service _ => true | _ => false
  | .foreignFrame ws => match Machine.classify ws with | .service _ => true | .reply => true | _ => false
  | .unknownFrame ws => Machine.classify ws == .unknown
  | .damagedFrame ws => Machine.classify ws == .damaged && !ws.isEmpty
  | .bypassFrame ws => !ws.isEmpty
  | .frameDeparture => true
  | .frameGapExpiry => true
  | .chargeLimitExpiry => true
  | .sync _ => true
  | .status _ => true
  | .point _ _ _ _ => true
  | .read _ => true
  | .write _ _ => true
  | .modeRun _ => true
  | .modeDrain _ => true
  | .modeStandby _ => true
  | .headEnable _ _ _ _ => true
  | .headDisable _ _ _ _ => true
  | .headStop _ _ _ _ => true
  | .sample _ _ _ _ => true
  | .scopeOpen _ => true
  | .scopeClose _ => true
  | .scopeAbandon _ => true
  | .unpark _ => true
  | .clearAlerts _ _ => true
  | .clearTrip _ => true
  | .clearWindow _ _ => true
  | .tallyClear _ => true
  | .resetNode _ => true
  | .clearWindowCompletion => true
  | .warmResetCompletion => true
  | .lineClockTick => true

end Sys2Proof
end

