-- ==== Sys2Proof/Tests/Slice0.lean ====
section
/-! SUPPORT. The model's own checks: ill-formed commands, frame words written out from the spec's layouts, steps of the spec's
worked examples, and for every statement with hypotheses a concrete state and operands that meet them. -/

open Sys2Proof Sys2Proof.Machine

namespace Sys2Proof.Tests

set_option Elab.async false

/-! ### Small states and frames -/

/-- An INDEX frame's words (R164). -/
def indexWords (vent : Word) (count : Word) (phase advance : Nat) : List Word :=
  withCheck ([1, vent, count, BitVec.ofNat 16 (phase + 256 * advance)] ++ List.replicate 22 0)

/-- A CARRIER frame's words (R164). -/
def carrierWords (vent : Word) : List Word := withCheck ([3, vent] ++ List.replicate 17 0)

/-- A REPORT frame's words with no report (R164). -/
def reportWords : List Word := withCheck ([2, 0, 0] ++ List.replicate 17 0)

/-- A REPLY's words (R164). -/
def replyWords : List Word := withCheck [5, 9, 2, 0, 0, 0, 0, 0, 0, 0]

/-- A frame of kind 6, which is none of the five. -/
def unknownWords : List Word := withCheck [6, 1]

/-- Recipe slot 0: LIVE, DOSE 1800, TRIM_USE 1, CHARGE_LIMIT 900, CLAMP_WAIT 2, CRIMP_DEPTH 180. -/
def recipe0 : Vector Word 128 :=
  ((((((Vector.replicate 128 0).set 0 1).set 1 1800).set 2 1).set 3 900).set 4 2).set 15 180

/-- A node awake in a mode, at clock 5000, its last frame at clock 0, count 10, phase 3, node address 5. -/
def awake (m : Mode) : State := { State.reset with
  coldResetPin := false
  clock := 5000
  lp.nodeAddress := 5
  lp.gapTimer := .running 0
  lp.lastCount := 10
  lp.lastPhase := 3
  lp.unchecked := false
  nc.mode := m
  nc.tripCause := if m = .trip then some .linkGap else none
  rs.words := recipe0 }

/-- A node asleep. -/
def asleep : State := { awake .waitSync with lp.gapTimer := .stopped }

/-- A node in a mode with one record in a ring slot, LOADED, of recipe slot 0, serial 7. -/
def loadedAt (m : Mode) (k : Fin 64) (r : Record) : State := { awake m with
  tu.ring := (Vector.replicate 64 Record.cleared).set k { r with state := .loaded, serial := 7 }
  rs.inUse := (Vector.replicate 8 0).set 0 1
  vu.tallies := (Vector.replicate 8 {}).set 0 { admitted := 1 }
  nc.ringEmpty := false }

/-- The record bound to head 4. -/
def boundRecord : Record := { head := some 4, engaged := true, bound := true }

/-- A node in RUN with the record in a ring slot bound to head 4, and the head's other fields. -/
def boundAt (k : Fin 64) (c : HeadContext) : State := { loadedAt .run k boundRecord with
  hu.heads := (Vector.replicate 24 {}).set 4 { c with bound := some ⟨k, 7⟩ } }

/-- A node in RUN whose record in ring slot 28 is LOADED and trailing head 4, which is IDLE. -/
def trailingAt : State := { loadedAt .run 28 { head := some 4, engaged := true, released := true } with
  hu.heads := (Vector.replicate 24 {}).set 4 { trailing := some ⟨28, 7⟩ } }

/-- A node in RUN with a PASS record in a ring slot. -/
def finalAt (k : Fin 64) : State := { awake .run with
  tu.ring := (Vector.replicate 64 Record.cleared).set k { state := .final, serial := 7, verdict := some .pass }
  vu.tallies := (Vector.replicate 8 {}).set 0 { admitted := 1, passed := 1 }
  nc.ringEmpty := false }

/-- A node in RUN with a candidate of a product code. -/
def candidateNode (code : Option (Fin 16)) : State := { awake .run with lp.candidate := some ⟨code, 3405, some 41⟩ }

/-- The next FORWARD, DWELL and REVERSE frames after count 10 and phase 3. -/
def forwardWords : List Word := indexWords 0 11 4 1
def dwellWords : List Word := indexWords 0 10 3 2
def reverseWords : List Word := indexWords 0 9 2 3
def forwardFrame : IndexFrame := ⟨false, 11, 4, .forward⟩
def dwellFrame : IndexFrame := ⟨false, 10, 3, .dwell⟩
def reverseFrame : IndexFrame := ⟨false, 9, 2, .reverse⟩

theorem forwardWords_class : classify forwardWords = .index forwardFrame := by decide
theorem dwellWords_class : classify dwellWords = .index dwellFrame := by decide
theorem reverseWords_class : classify reverseWords = .index reverseFrame := by decide

/-- The state a command leaves; every command leaves one. -/
def after (c : Instr) (s : State) : State :=
  match exec c s with
  | .next t => t
  | .fault _ => s
  | .refused _ => s

/-! ### Ill-formed commands -/

theorem test_indexFrame_ill : (Instr.indexFrame (carrierWords 0)).wellFormed = false := by decide
theorem test_reportFrame_ill : (Instr.reportFrame forwardWords).wellFormed = false := by decide
theorem test_carrierFrame_ill : (Instr.carrierFrame reportWords).wellFormed = false := by decide
theorem test_serviceFrame_ill : (Instr.serviceFrame replyWords).wellFormed = false := by decide
theorem test_foreignFrame_ill : (Instr.foreignFrame unknownWords).wellFormed = false := by decide
theorem test_unknownFrame_ill : (Instr.unknownFrame replyWords).wellFormed = false := by decide
theorem test_damagedFrame_ill : (Instr.damagedFrame replyWords).wellFormed = false := by decide
theorem test_damagedFrame_empty_ill : (Instr.damagedFrame []).wellFormed = false := by decide
theorem test_bypassFrame_ill : (Instr.bypassFrame []).wellFormed = false := by decide

/-- A term of each checked row that is well formed. -/
theorem test_wellFormed :
    [Instr.indexFrame forwardWords, .reportFrame reportWords, .carrierFrame (carrierWords 1),
      .serviceFrame (withCheck [4, 5, 2, 0, 0, 0, 0]), .foreignFrame replyWords, .unknownFrame unknownWords,
      .damagedFrame [1, 2, 3], .bypassFrame [9]].all Instr.wellFormed = true := by decide

/-! ### Frames, from their layouts -/

/-- Phase 11 in bits 0-4, REVERSE (3) in bits 8-9: 0x030B; phase 24 and advance 0 are damaged (R164, R128). -/
theorem test_index_words : classify (withCheck ([1, 1, 0x1004, 0x030B] ++ List.replicate 22 0)) =
      .index ⟨true, 0x1004, 11, .reverse⟩ ∧
    classify (withCheck ([1, 0, 0, 0x0118] ++ List.replicate 22 0)) = .damaged ∧
    classify (withCheck ([1, 0, 0, 0x000B] ++ List.replicate 22 0)) = .damaged := by decide

/-- A REPORT frame with an INFEED report of code 3 at 4.1 degrees and a FLOW report of 240 pulses for head 11 (R165). -/
theorem test_report_words : classify (withCheck ([2, 1, 2, 0x1303, 3405, 41, 0, 0x3000, 11, 240, 0] ++ List.replicate 17 0)) =
    .report ⟨true, [.infeed true 3 3405 true 41, .flow 11 240]⟩ := by decide

/-- An EVENT report of BOTTOM and a MEASURE report of GROSS with ok set (R165). -/
theorem test_event_words : classify (withCheck ([2, 0, 2, 0x2003, 11, 35, 0, 0x4012, 40, 517, 3482] ++ List.replicate 17 0)) =
    .report ⟨false, [.event 11 (some .bottom) 35, .measure (some .gross) true 40 517 3482]⟩ := by decide

/-- The check word is the fold of the words before it (R128); a thirteenth report is damage. -/
theorem test_frame_damage : classify [3, 0] = .damaged ∧ classify [] = .damaged ∧
    classify (withCheck ([2, 0, 13] ++ List.replicate 69 0)) = .damaged ∧
    classify (withCheck (0x0003 :: List.replicate 17 0)) = .damaged := by decide +kernel

/-! ### The spec's worked examples and one step of each kind -/

/-- 01 section 1.7: the first FORWARD advance after cold reset loads slot 63 at position 0. -/
theorem test_first_feed :
    let t := after (.indexFrame forwardWords) (candidateNode (some 8))
    (t.tu.origin = 63 ∧ (t.record 63).state = .loaded ∧ t.position 63 = 0 ∧ t.inUse 0 = 1 ∧ t.tu.nextSerial = 1) ∧
      (t.record 63).predicted = 8 ∧ t.lp.transit = [.accepted [1, 0, 11, 0x0104, 1, 0xFFFF, 0, 0xFFFF, 0]] := by
  decide +kernel

/-- 01 section 1.7: a REVERSE advance backs the record at position 0 out. -/
theorem test_back_out :
    let t := after (.indexFrame reverseWords) (loadedAt .run 0 {})
    t.tu.origin = 1 ∧ t.record 0 = Record.cleared ∧ t.inUse 0 = 0 ∧ (t.vu.tallies[0]).backedOut = 1 := by decide +kernel

/-- 03 section 3.11, advance 4: the engagement at E. -/
theorem test_engage :
    let t := after (.indexFrame forwardWords) (loadedAt .run 3 {})
    (t.head 4).state = .engaged ∧ (t.head 4).bound = some ⟨3, 7⟩ ∧ t.lp.queue = [⟨4, .engage, 0⟩] := by decide +kernel

/-- 03 section 3.11, advance 24: the release at R. -/
theorem test_release :
    let t := after (.indexFrame forwardWords) (boundAt 23 { state := .crimped })
    (t.head 4).state = .idle ∧ (t.head 4).trailing = some ⟨23, 7⟩ ∧ (t.record 23).released = true ∧
      (t.record 23).causes = 0 ∧ t.lp.queue = [⟨4, .release, 0⟩] := by decide +kernel

/-- The Trim Table of 04 section 4.8. -/
def trimNode : State := { loadedAt .run 6 {} with
  hu.trimRows := 5
  hu.trim := ((((((Vector.replicate 16 {}).set 0 ⟨-20, 1180⟩).set 1 ⟨0, 1150⟩).set 2 ⟨20, 1125⟩).set 3 ⟨40, 1100⟩).set 4
    ⟨60, 1075⟩) }

/-- 04 section 4.8: the doses at 4.2, 4.0, 6.0 and -3.5 degrees, and with no temperature. -/
theorem test_dose_lookup :
    [some 42, some 40, some 60, some (-35), none].map (fun t => trimmedDose trimNode { temperature := t }) =
      [1933, 1933, 1889, 2074, 1800] ∧
    [some 42, some (-35), none].map (fun t => (trimFactor trimNode { temperature := t }).2) =
      [none, some .tempRange, some .missingValue] := by decide +kernel

/-- 04 section 4.8: 233 pulses find 231 owed: SETTLING at -2, CLOSE queued. -/
theorem test_dose_end :
    let t := takeReport (boundAt 9 { state := .charging, doseCounter := 231 }) (.flow 4 233)
    (t.head 4).state = .settling ∧ (t.head 4).doseCounter = -2 ∧ (t.record 9).pulses = 233 ∧
      t.lp.queue = [⟨4, .closeGas, 0⟩] := by decide +kernel

/-- 04 section 4.9: the expiry ends the charge with OVERTIME, at the deadline and not a tick before. -/
theorem test_overtime :
    let s := boundAt 10 { state := .charging, doseCounter := 231, timer := some ⟨0, 5000⟩ }
    let t := after .chargeLimitExpiry s
    (t.head 4).state = .settling ∧ hasCause .overtime (t.record 10).causes = true ∧ t.lp.queue = [⟨4, .closeGas, 0⟩] ∧
      after .chargeLimitExpiry { s with clock := 4999 } = { s with clock := 4999 } := by decide +kernel

/-- 06 section 6.6: can V is REJECT for GAS_MASS and OVERSHOOT. -/
theorem test_reject :
    let s := loadedAt .run 47 { tare := 3410, gross := some 3512, doseLoaded := some 1900, pulses := 1934 }
    let t := after (.indexFrame forwardWords)
      { s with rs.words := (((s.rs.words.set 5 17).set 6 70).set 7 95).set 14 20 }
    (t.record 47).verdict = some .reject ∧ (t.record 47).causes = addCause .gasMass (addCause .overshoot 0) ∧
      (t.vu.tallies[0]).rejected = 1 ∧ t.inUse 0 = 0 ∧
      t.lp.transit = [.accepted [1, 0, 11, 0x0104, 0x20, 0xFFFF, 0, 0xFFFF, 0]] := by decide +kernel

/-- 08 section 8.10, step 1: the CLOSE of a charge removes its queued OPEN. -/
theorem test_coalesce :
    (queueCommand ⟨7, .closeGas, 0⟩ { awake .run with
      lp.queue := [⟨3, .engage, 0⟩, ⟨5, .openGas, 0⟩, ⟨7, .openGas, 0⟩, ⟨2, .closeGas, 0⟩] }).lp.queue =
      [⟨3, .engage, 0⟩, ⟨5, .openGas, 0⟩, ⟨2, .closeGas, 0⟩, ⟨7, .closeGas, 0⟩] := by decide +kernel

/-- 08 section 8.10, step 4: eight commands leave, an OPEN arms its timer, an ABORT brings its head to DISABLED. -/
theorem test_departure :
    let s := boundAt 6 { state := .charging }
    let t := after .frameDeparture { s with
      hu.heads := s.hu.heads.set 5 { state := .aborting, enabled := false }
      lp.transit := [.accepted [3, 0]]
      lp.queue := [⟨9, .crimp, 180⟩, ⟨5, .abort, 0⟩, ⟨4, .openGas, 0⟩] }
    (t.head 4).timer = some ⟨5000, 90000⟩ ∧ (t.head 5).state = .disabled ∧ t.lp.queue = [] ∧
      t.linkOut = [withCheck ([3, 0, 0x0409, 180, 0x0605, 0, 0x0204, 0] ++ List.replicate 10 0 ++ [1])] := by
  decide +kernel

/-- 08 section 8.11, step 4: a count one above the expected trips RUN with TRACK_LOST before the advance. -/
theorem test_track_lost :
    let t := after (.indexFrame (indexWords 0 12 5 1)) (boundAt 9 { state := .charging })
    t.nc.mode = .trip ∧ t.nc.tripCause = some .trackLost ∧ (t.head 4).state = .aborting ∧
      hasCause .tripped (t.record 9).causes = true ∧ t.lp.queue = [⟨4, .abort, 0⟩] ∧ t.lp.lastCount = 12 := by
  decide +kernel

/-- 10 section 10.7: a READ after a WRITE answers the old copy, marked stale, and fills the clock hold. -/
theorem test_read_after_write :
    let s := { awake .standby with
      clock := 1234567, hu.trimRows := 5, nc.pointer := ⟨0, 5⟩, nc.latch := 5, nc.stale := false }
    let t := after (.read 2) (after (.write 1 8) s)
    t.hu.trimRows = 8 ∧ t.nc.pointer = ⟨0, 7⟩ ∧ t.nc.latch = 18 ∧ t.nc.clockHold = 54919 ∧ t.nc.stale = false ∧
      t.lp.transit = [.reply [5, 5, 5, 1, 0, 6, 0, 0, 0], .reply [5, 5, 4, 2, 0, 5, 1, 7, 0]] := by decide +kernel

/-- 10 section 10.8: a CLAMP_WAIT of 12 is refused, and 3 stored, in slot 6. -/
theorem test_recipe_write :
    let s := { awake .standby with nc.pointer := ⟨3, 100⟩ }
    (after (.write 0 12) s).nc.pointer = ⟨3, 100⟩ ∧ (after (.write 0 3) s).recipeWord 6 4 = 3 := by decide +kernel

/-- R111, R110: a WRITE into a slot in use is parked; the verdict that lets the slot go applies it. -/
theorem test_park :
    let s := { loadedAt .run 47 {} with nc.pointer := ⟨3, 1⟩ }
    let t := after (.write 0 1950) s
    t.rs.parkList = [⟨0, 1, 1950⟩] ∧ t.recipeWord 0 1 = 1800 ∧
      (after (.indexFrame forwardWords) t).recipeWord 0 1 = 1950 ∧
        (after (.indexFrame forwardWords) t).rs.parkList = [] := by decide +kernel

/-- R141, R142: the third SYNC wakes the node, and another request before it starts the count again. -/
theorem test_wake :
    (after (.sync 0) { asleep with nc.wakeCount := 2 }).nc.mode = .standby ∧
      (after (.status 0) { asleep with nc.wakeCount := 2 }).nc.wakeCount = 0 ∧
        (after (.sync 0) asleep).nc.wakeCount = 1 := by decide +kernel

/-- R127: in WAIT_SYNC an INDEX frame passes and nothing is taken from it. -/
theorem test_bypass : after (.indexFrame forwardWords) asleep = { asleep with linkOut := [forwardWords] } := by decide +kernel

/-- R151, R152: a warm reset completes 2000 ticks after its request. -/
theorem test_warm_reset :
    let s := { awake .trip with nc.busy := .resetNode 3000 }
    (after .warmResetCompletion s).nc.mode = .standby ∧ (after .warmResetCompletion s).nc.tripCause = none ∧
      after .warmResetCompletion { s with clock := 4999 } = { s with clock := 4999 } := by decide +kernel

/-- R54, R47: HEAD STOP ONE 4 against a clamp, the queue's OPEN of the head removed. -/
theorem test_head_stop :
    let s := { boundAt 6 { state := .charging } with lp.queue := [⟨4, .openGas, 0⟩] }
    let t := after (.headStop 0 0 4 0) s
    (t.head 4).state = .aborting ∧ (t.head 4).enabled = false ∧ t.lp.queue = [⟨4, .abort, 0⟩] ∧
      hasCause .headStopped (t.record 6).causes = true := by decide +kernel

/-- R136, R49, R148: an OPEN that finds 48 commands queued trips the node on the CHARGING head; the trip empties the queue. -/
theorem test_queue_full :
    let t := takeReport { boundAt 6 { state := .engaged } with lp.queue := List.replicate 48 ⟨9, .release, 0⟩ }
      (.event 4 (some .clamped) 35)
    t.nc.mode = .trip ∧ t.nc.tripCause = some .queueFull ∧ (t.head 4).state = .aborting ∧
      t.lp.queue = [⟨4, .abort, 0⟩] ∧ hasAlert .trip t.nc.alerts = true ∧
        hasCause .tripped (t.record 6).causes = true := by decide +kernel

/-! ### States and operands that meet the statements' hypotheses, by statement -/

theorem witness_StepTakesFront : ({ awake .run with pending := [.read 0] } : State).pending = .read 0 :: [] ∧
    (awake .run).pending = [] := by decide

theorem witness_ResetPinSetsColdValues : State.reset.coldResetPin = true ∧ (awake .run).coldResetPin = false := by decide

theorem witness_LineClockCounts : State.reset.coldResetPin = true ∧ (awake .run).coldResetPin = false ∧
    exec .lineClockTick (awake .run) = .next { awake .run with clock := 5001 } := ⟨rfl, rfl, rfl⟩

/-- The limit of 50 ms is reached at 5000 ticks and not at 4999. -/
theorem witness_GapExpiryByMode :
    (∀ m, (awake m).lp.gapTimer = .running 0 ∧ (awake m).lp.gapLimit.toNat * 100 ≤ ((awake m).clock - 0).toNat) ∧
      (awake .standby).nc.mode = .standby ∧ (awake .trip).nc.mode = .trip ∧ (awake .run).working ∧
        (boundAt 9 { state := .charging }).working ∧ (boundAt 9 { state := .charging }).Joined ∧
          ∀ since, ({ awake .run with clock := 4999 } : State).lp.gapTimer = .running since →
            ((4999 : Clock) - since).toNat < (awake .run).lp.gapLimit.toNat * 100 := by
  refine ⟨fun m => ⟨rfl, (by decide : 50 * 100 ≤ ((5000 : Clock) - 0).toNat)⟩, rfl, rfl, .inl rfl, .inl rfl, .of_check (by decide +kernel), ?_⟩
  intro since h
  cases h
  decide

theorem witness_CarrierTakesVentFlag : classify (carrierWords 0) = .carrier false ∧ classify (carrierWords 1) = .carrier true ∧
    (awake .standby).bypassed = false ∧ (awake .standby).nc.mode = .standby ∧ (awake .trip).bypassed = false ∧
    (awake .trip).nc.mode = .trip ∧ (boundAt 9 { state := .charging }).bypassed = false ∧
    (boundAt 9 { state := .charging }).working ∧ (boundAt 9 { state := .charging }).Joined :=
  ⟨by decide, by decide, by decide, by decide, by decide, by decide, by decide, .inl rfl, .of_check (by decide +kernel)⟩

/-- A SERVICE frame for node 9 and, for each clause of the frames that pass, a state. -/
def foreignWords : List Word := withCheck [4, 9, 2, 0, 0, 0, 0]

theorem witness_FramesPassUnchanged : State.reset.linkHeld = true ∧
    ({ awake .standby with lp.nodeAddress := 63 } : State).linkHeld = true ∧ asleep.nc.mode = .waitSync ∧
    (∀ f, classify foreignWords = .service f → asleep.addressed f = false) ∧ asleep.lp.transit = [] ∧
    ({ asleep with lp.transit := [.unchanged [1]] } : State).lp.transit ≠ [] ∧ (awake .run).bypassed = false ∧
    (∀ f, classify foreignWords = .service f → (awake .run).addressed f = false) ∧ classify replyWords = .reply ∧
    classify unknownWords = .unknown := by
  refine ⟨rfl, by decide, rfl, ?_, rfl, by decide, by decide, ?_, by decide, by decide⟩ <;>
    (intro f h; have e : classify foreignWords = .service ⟨9, 2, 0, 0, 0, 0⟩ := by decide
     rw [e] at h; cases h; decide)

theorem witness_DamagedFrameMarksLoss : classify [1, 2, 3] = .damaged ∧ (boundAt 9 { state := .charging }).bypassed = false ∧
    (boundAt 9 { state := .charging }).Joined ∧ ((boundAt 9 { state := .charging }).head 4).bound = some ⟨9, 7⟩ ∧
    ((boundAt 9 { state := .charging }).head 4).state = .charging ∧
    (boundAt 5 { state := .clamped }).Joined ∧ ((boundAt 5 { state := .clamped }).head 4).state = .clamped ∧
    (boundAt 22 { state := .crimping }).Joined ∧ ((boundAt 22 { state := .crimping }).head 4).state = .crimping ∧
    (boundAt 19 { state := .settling }).Joined ∧ ((boundAt 19 { state := .settling }).head 4).state = .settling :=
  ⟨by decide, by decide, .of_check (by decide +kernel), by decide, by decide, .of_check (by decide +kernel), by decide,
    .of_check (by decide +kernel), by decide, .of_check (by decide +kernel), by decide⟩

/-- Phase 23 and advance 3, phase 24, and advance 0; twelve reports and none; a report of each kind, of kind 0 and of kind 5;
kind words 0 and 6, and lengths one word off. -/
theorem witness_FrameFields : (0x0317 : Word).extractLsb' 0 5 = 23 ∧ ((0x0317 : Word).extractLsb' 8 2).toNat = 3 ∧
    23 < ((0x0118 : Word).extractLsb' 0 5).toNat ∧ (0x000B : Word).extractLsb' 8 2 = 0 ∧
    (List.replicate 22 (0 : Word)).length = 22 ∧ (List.replicate 17 (0 : Word)).length = 17 ∧
    (List.replicate 12 ((0x1000 : Word), (0 : Word), (0 : Word), (0 : Word))).length ≤ 12 ∧
    [0x100F, 0x2004, 0x3000, 0x4012, 0x0000, 0x5000].map (fun w : Word => (w.extractLsb' 12 4).toNat) =
      [1, 2, 3, 4, 0, 5] ∧
    ((0x100F : Word).extractLsb' 0 4).toNat = (15 : Fin 16).val ∧ 5 < (6 : Word).toNat ∧
    (List.replicate 9 (0 : Word)).length = 9 ∧ (List.replicate 26 (0 : Word)).length ≠ 25 ∧
    (List.replicate 20 (0 : Word)).length ≠ 4 * 0 + 19 ∧ 12 < (13 : Word).toNat := by decide

/-- The first and the last word of a good frame, each changed. -/
theorem witness_FramesReadFromWords : classify (carrierWords 0) ≠ .damaged ∧ 0 < (carrierWords 0).length ∧
    19 < (carrierWords 0).length ∧ (7 : Word) ≠ frameWord (carrierWords 0) 0 ∧
    (7 : Word) ≠ frameWord (carrierWords 0) 19 := by decide

/-- A node whose queue holds an OPEN of the CHARGING head 4 and an ABORT of the ABORTING head 5, for each frame in transit. -/
def departNode (t : List TransitFrame) : State := { boundAt 9 { state := .charging } with
  hu.heads := (boundAt 9 { state := .charging }).hu.heads.set 5 { state := .aborting }
  lp.queue := [⟨4, .openGas, 0⟩, ⟨5, .abort, 0⟩]
  lp.transit := t }

theorem witness_DepartureSendsCommands : (departNode [.accepted [3, 0]]).lp.transit = .accepted [3, 0] :: [] ∧
    (departNode [.accepted [3, 0]]).HeadsLegal ∧
    (∃ c ∈ (departNode [.accepted [3, 0]]).lp.queue.take 8, c.head = 5 ∧ c.kind = .abort) ∧
    ((departNode [.accepted [3, 0]]).head 5).state = .aborting ∧
    (∃ c ∈ (departNode [.accepted [3, 0]]).lp.queue.take 8, c.head = 4 ∧ c.kind = .openGas) ∧
    ((departNode [.accepted [3, 0]]).head 4).bound = some ⟨9, 7⟩ ∧
    (¬ ∃ c ∈ (departNode [.accepted [3, 0]]).lp.queue.take 8, c.head = 6 ∧ c.kind = .abort) ∧
    (departNode [.unchanged [1]]).lp.transit = [.unchanged [1]] ∧ (departNode [.reply [5]]).lp.transit = [.reply [5]] ∧
    (departNode []).lp.transit = [] :=
  ⟨rfl, .of_check (by decide +kernel), by decide, by decide, by decide, by decide, by decide, rfl, rfl, rfl⟩

theorem witness_DwellMovesNothing : classify dwellWords = .index dwellFrame ∧ dwellFrame.advance = .dwell ∧
    (finalAt 30).bypassed = false ∧ (finalAt 30).follows dwellFrame ∧
    ¬ ((finalAt 30).nc.mode = .drain ∧ (finalAt 30).allEmpty = true) ∧
    ((finalAt 30).record ((finalAt 30).slotAt 30)).state ≠ .empty ∧
    ((finalAt 30).record ((finalAt 30).slotAt 63)).state = .empty := by unfold State.follows; decide +kernel

/-- In each mode: a count one above the expected beside a vent flag, a frame that matches, one that matches with a vent flag;
and a node whose turret is unchecked. -/
theorem witness_TurretCheckByMode : classify (indexWords 1 12 5 1) = .index ⟨true, 12, 5, .forward⟩ ∧
    classify forwardWords = .index forwardFrame ∧ classify (indexWords 1 11 4 1) = .index ⟨true, 11, 4, .forward⟩ ∧
    (∀ m, m = .run ∨ m = .drain ∨ m = .trip ∨ m = .standby → (awake m).bypassed = false ∧ (awake m).lp.unchecked = false) ∧
    (12 : Word) ≠ expectedCount .forward (awake .run).lp.lastCount ∧
    (11 : Word) = expectedCount .forward (awake .run).lp.lastCount ∧
    (4 : Fin 24) = expectedPhase .forward (awake .run).lp.lastPhase ∧
    ({ awake .drain with lp.unchecked := true } : State).lp.unchecked = true ∧
    ({ awake .drain with lp.unchecked := true } : State).bypassed = false ∧ (awake .run).working ∧
    (awake .run).QueueLegal ∧ (awake .run).lp.queue.length ≤ 23 ∧ (awake .trip).nc.mode = .trip ∧
    (awake .standby).nc.mode = .standby := by
  refine ⟨by decide, by decide, by decide, ?_, by decide, by decide, by decide, rfl, by decide, .inl rfl,
    .of_check (by decide +kernel), by decide, rfl, rfl⟩
  rintro m (h | h | h | h) <;> subst h <;> decide

/-- A FINAL record one place before the gate, one at position 63, and a candidate in RUN. -/
theorem witness_ForwardMovesOrigin : classify forwardWords = .index forwardFrame ∧ forwardFrame.advance = .forward ∧
    (finalAt 47).bypassed = false ∧ (finalAt 47).Accounted ∧ ((finalAt 47).record 47).state = .final ∧
    ((finalAt 47).record 47).verdict = some .pass ∧ (finalAt 47).position 47 + 1 = (finalAt 47).stationJ ∧
    (finalAt 63).Accounted ∧ (finalAt 63).bypassed = false ∧ (candidateNode (some 8)).Accounted ∧
    (candidateNode (some 8)).bypassed = false ∧
    ∀ k, (candidateNode (some 8)).position k + 1 = (candidateNode (some 8)).stationJ →
      ((candidateNode (some 8)).record k).state = .empty :=
  ⟨forwardWords_class, rfl, by decide, .of_check (by decide +kernel), by decide, by decide, by decide,
    .of_check (by decide +kernel), by decide, .of_check (by decide +kernel), by decide, by decide +kernel⟩

/-- A LOADED record at position 0 with a bound request, before a list of three and of four requests, and a FINAL one. -/
theorem witness_ReverseBacksOut : classify reverseWords = .index reverseFrame ∧ reverseFrame.advance = .reverse ∧
    (∀ n : Fin 5, ({ loadedAt .run 0 { sample := some ⟨.any, 22⟩ } with
      vu.samples := List.replicate n.val ⟨.any, 1⟩ } : State).accountCheck) ∧
    (loadedAt .run 0 { sample := some ⟨.any, 22⟩ }).bypassed = false ∧
    (loadedAt .run 0 { sample := some ⟨.any, 22⟩ }).RecordsLegal ∧
    (loadedAt .drain 0 {}).Accounted ∧ (loadedAt .drain 0 {}).RecordsLegal ∧ (loadedAt .drain 0 {}).bypassed = false ∧
    ((loadedAt .run 0 { sample := some ⟨.any, 22⟩ }).record ((loadedAt .run 0 {}).slotAt 0)).state = .loaded ∧
    ((loadedAt .run 0 { sample := some ⟨.any, 22⟩ }).record ((loadedAt .run 0 {}).slotAt 0)).sample = some ⟨.any, 22⟩ ∧
    (finalAt 0).Accounted ∧ (finalAt 0).RecordsLegal ∧ ((finalAt 0).record ((finalAt 0).slotAt 0)).state ≠ .loaded :=
  ⟨reverseWords_class, rfl, by decide +kernel, by decide, .of_check (by decide +kernel), .of_check (by decide +kernel),
    .of_check (by decide +kernel), by decide, by decide, by decide, .of_check (by decide +kernel),
    .of_check (by decide +kernel), by decide⟩

theorem witness_JogBackAborts : classify reverseWords = .index reverseFrame ∧ reverseFrame.advance = .reverse ∧
    (boundAt 4 { state := .engaged }).bypassed = false ∧ (boundAt 4 { state := .engaged }).follows reverseFrame ∧
    (boundAt 4 { state := .engaged }).Joined ∧ ((boundAt 4 { state := .engaged }).head 4).bound = some ⟨4, 7⟩ ∧
    (boundAt 4 { state := .engaged }).position 4 = (boundAt 4 { state := .engaged }).stationE ∧
    ((boundAt 4 { state := .engaged }).lp.queue.filter (fun c => c.head != 4)).length < 48 ∧
    (boundAt 5 { state := .engaged }).Joined ∧ (boundAt 5 { state := .engaged }).follows reverseFrame ∧
    ∀ h l, ((boundAt 5 { state := .engaged }).head h).bound = some l →
      (boundAt 5 { state := .engaged }).position l.slot ≠ (boundAt 5 { state := .engaged }).stationE := by
  refine ⟨reverseWords_class, rfl, by decide, by unfold State.follows; decide, .of_check (by decide +kernel), by decide,
    by decide, by decide, .of_check (by decide +kernel), by unfold State.follows; decide, ?_⟩
  intro h l e
  have only : ∀ h, ((boundAt 5 { state := .engaged }).head h).bound = none ∨
      ((boundAt 5 { state := .engaged }).head h).bound = some ⟨5, 7⟩ := by decide
  rcases only h with n | b
  · rw [n] at e; cases e
  · rw [b] at e; cases e; decide

/-- An empty ring, a ring with one can, and a can that a REVERSE advance backs out. -/
theorem witness_DrainEndsWithRing : classify dwellWords = .index dwellFrame ∧ classify reverseWords = .index reverseFrame ∧
    (∀ s ∈ [awake .drain, loadedAt .drain 9 {}, loadedAt .drain 0 {}], s.bypassed = false ∧ s.nc.mode = .drain ∧
      s.lp.queue.length ≤ 23 ∧ s.lp.unchecked = false ∧ s.lp.lastCount = 10 ∧ s.lp.lastPhase = 3) ∧
    (awake .drain).follows dwellFrame ∧ (loadedAt .drain 0 {}).follows reverseFrame ∧ (awake .drain).QueueLegal ∧
    (loadedAt .drain 9 {}).QueueLegal ∧ (loadedAt .drain 0 {}).QueueLegal ∧
    (after (.indexFrame dwellWords) (awake .drain)).allEmpty = true ∧
    (after (.indexFrame dwellWords) (loadedAt .drain 9 {})).allEmpty = false ∧
    (after (.indexFrame reverseWords) (loadedAt .drain 0 {})).allEmpty = true :=
  ⟨by decide, by decide, by decide, by unfold State.follows; decide, by unfold State.follows; decide,
    .of_check (by decide +kernel), .of_check (by decide +kernel), .of_check (by decide +kernel), by decide +kernel,
    by decide +kernel, by decide +kernel⟩

/-- A vent flag, as a frame that does not follow. -/
theorem witness_DrainTrips : classify (indexWords 1 11 4 1) = .index ⟨true, 11, 4, .forward⟩ ∧
    ¬ (awake .drain).follows ⟨true, 11, 4, .forward⟩ := by unfold State.follows; decide

theorem witness_FeedLoadsRecord : classify forwardWords = .index forwardFrame ∧ forwardFrame.advance = .forward ∧
    (candidateNode (some 8)).bypassed = false ∧ (candidateNode (some 8)).nc.mode = .run ∧
    (candidateNode (some 8)).follows forwardFrame ∧ (candidateNode (some 8)).Joined ∧
    (candidateNode (some 8)).lp.candidate = some ⟨some 8, 3405, some 41⟩ ∧ (0 : Fin 8).val = (8 : Fin 16).val % 8 ∧
    (8 : Fin 24).val = (forwardFrame.phase.val + (candidateNode (some 8)).stationE) % 24 ∧
    (candidateNode (some 8)).recipeWord 0 0 ≠ 0 ∧ (∀ e ∈ (candidateNode (some 8)).rs.parkList, e.slot ≠ 0) ∧
    ((candidateNode (some 8)).head 8).enabled = true ∧ ((candidateNode (some 8)).head 8).state ≠ .faulted ∧
    ∀ j, ((candidateNode (some 8)).record j).state = .loaded →
      (candidateNode (some 8)).position j + 1 ≠ (candidateNode (some 8)).stationJ :=
  ⟨forwardWords_class, rfl, by decide, by decide, by unfold State.follows; decide, .of_check (by decide +kernel),
    by decide, by decide, by decide, by decide, by decide, by decide, by decide, by decide +kernel⟩

/-- Each way to HOLD: no candidate, no code, an EMPTY slot, a closing slot, a head not usable, and a mode that is not RUN. -/
theorem witness_HoldKeepsCandidate : classify forwardWords = .index forwardFrame ∧
    forwardFrame.advance = .forward ∧ (awake .run).lp.candidate = none ∧ (awake .run).Accounted ∧
    (candidateNode none).lp.candidate = some ⟨none, 3405, some 41⟩ ∧ (candidateNode none).Accounted ∧
    (candidateNode (some 1)).recipeWord (recipeOf 1) 0 = 0 ∧ (candidateNode (some 1)).Accounted ∧
    (∃ e ∈ ({ candidateNode (some 8) with rs.parkList := [⟨0, 1, 5⟩] } : State).rs.parkList, e.slot = recipeOf 8) ∧
    ({ candidateNode (some 8) with hu.heads := (Vector.replicate 24 {}).set 8 { state := .faulted } } : State).Accounted ∧
    (({ candidateNode (some 8) with hu.heads := (Vector.replicate 24 {}).set 8 { state := .faulted } } : State).head
      ((candidateNode (some 8)).predictedHead forwardFrame.phase)).state = .faulted ∧
    (awake .drain).nc.mode ≠ .run ∧ (awake .drain).Accounted ∧ (awake .drain).bypassed = false ∧
    (awake .run).follows forwardFrame :=
  ⟨forwardWords_class, rfl, rfl, .of_check (by decide +kernel), rfl, .of_check (by decide +kernel), by decide, .of_check (by decide +kernel),
    by decide, .of_check (by decide +kernel), by decide, by decide, .of_check (by decide +kernel), by decide,
    by unfold State.follows; decide⟩

/-- At E: an engaged record, one with a cause, and in TRIP one with neither; and below E and beyond R. -/
theorem witness_EngagementPasses : classify forwardWords = .index forwardFrame ∧
    (loadedAt .run 3 { engaged := true }).QueueLegal ∧ ((loadedAt .run 3 { engaged := true }).record 3).engaged = true ∧
    (loadedAt .run 3 { causes := 1 }).QueueLegal ∧ ((loadedAt .run 3 { causes := 1 }).record 3).causes ≠ 0 ∧
    (loadedAt .run 3 {}).position 3 + 1 = (loadedAt .run 3 {}).stationE ∧
    (loadedAt .trip 3 {}).QueueLegal ∧ (loadedAt .trip 3 {}).follows forwardFrame ∧ (loadedAt .trip 3 {}).nc.mode = .trip ∧
    (loadedAt .run 0 {}).QueueLegal ∧ ((loadedAt .run 0 {}).record 0).bound = false ∧
    (loadedAt .run 0 {}).position 0 + 1 ≠ (loadedAt .run 0 {}).stationE ∧
    (loadedAt .run 23 {}).QueueLegal ∧ (loadedAt .run 23 {}).position 23 + 1 = (loadedAt .run 23 {}).stationR ∧
    (loadedAt .run 23 {}).follows forwardFrame :=
  ⟨forwardWords_class, .of_check (by decide +kernel), by decide, .of_check (by decide +kernel), by decide, by decide,
    .of_check (by decide +kernel), by unfold State.follows; decide, by decide, .of_check (by decide +kernel), by decide,
    by decide, .of_check (by decide +kernel), by decide, by unfold State.follows; decide⟩

theorem witness_EngagementAtE : classify forwardWords = .index forwardFrame ∧
    (loadedAt .run 3 {}).bypassed = false ∧ (loadedAt .run 3 {}).working ∧
    (loadedAt .run 3 {}).follows forwardFrame ∧ (loadedAt .run 3 {}).QueueLegal ∧
    (loadedAt .run 3 {}).lp.queue.length ≤ 23 ∧ ((loadedAt .run 3 {}).record 3).state = .loaded ∧
    (loadedAt .run 3 {}).position 3 + 1 = (loadedAt .run 3 {}).stationE ∧
    ((loadedAt .run 3 {}).record 3).engaged = false ∧ ((loadedAt .run 3 {}).record 3).causes = 0 ∧
    ((loadedAt .run 3 {}).head forwardFrame.phase).state = .idle ∧
    ({ loadedAt .run 3 {} with hu.heads := (Vector.replicate 24 {}).set 4 { state := .faulted } } : State).QueueLegal ∧
    (({ loadedAt .run 3 {} with hu.heads := (Vector.replicate 24 {}).set 4 { state := .faulted } } : State).head
      forwardFrame.phase).state ≠ .idle :=
  ⟨forwardWords_class, by decide, .inl rfl, by unfold State.follows; decide, .of_check (by decide +kernel), by decide, by decide, by decide,
    by decide, by decide, by decide, .of_check (by decide +kernel), by decide⟩

/-- The clamp wait at its limit and one above, and at C; the opening at G; the charge below C and at C. -/
theorem witness_ArrivalsUpToCrimp :
    classify forwardWords = .index forwardFrame ∧
    ((boundAt 5 { state := .engaged, clampWait := 1 }).QueueLegal ∧ (boundAt 5 { state := .engaged }).follows forwardFrame ∧
      1 + 1 ≤ ((boundAt 5 { state := .engaged }).recipeWord 0 4).toNat) ∧
    ((boundAt 5 { state := .engaged, clampWait := 2 }).QueueLegal ∧
      ((boundAt 5 { state := .engaged }).recipeWord 0 4).toNat < 2 + 1) ∧
    ((boundAt 19 { state := .engaged }).QueueLegal ∧
      (boundAt 19 { state := .engaged }).position 19 + 1 = (boundAt 19 { state := .engaged }).stationC) ∧
    ((boundAt 4 { state := .clamped }).QueueLegal ∧
      (boundAt 4 { state := .clamped }).position 4 + 1 < (boundAt 4 { state := .clamped }).stationG) ∧
    ((boundAt 5 { state := .clamped }).QueueLegal ∧
      (boundAt 5 { state := .clamped }).stationG ≤ (boundAt 5 { state := .clamped }).position 5 + 1) ∧
    ((boundAt 18 { state := .charging }).QueueLegal ∧
      (boundAt 18 { state := .charging }).position 18 + 1 ≠ (boundAt 18 { state := .charging }).stationC) ∧
    (boundAt 19 { state := .charging }).QueueLegal ∧
      (boundAt 19 { state := .charging }).position 19 + 1 = (boundAt 19 { state := .charging }).stationC ∧
        (boundAt 19 { state := .charging }).bypassed = false ∧ (boundAt 19 { state := .charging }).lp.queue.length ≤ 23 ∧
          ((boundAt 19 { state := .charging }).head 4).bound = some ⟨19, 7⟩ :=
  ⟨forwardWords_class, ⟨.of_check (by decide +kernel), by unfold State.follows; decide, by decide⟩,
    ⟨.of_check (by decide +kernel), by decide⟩, ⟨.of_check (by decide +kernel), by decide⟩,
    ⟨.of_check (by decide +kernel), by decide⟩, ⟨.of_check (by decide +kernel), by decide⟩,
    ⟨.of_check (by decide +kernel), by decide⟩, .of_check (by decide +kernel), by decide, by decide, by decide, by decide⟩

/-- SETTLING one place below C and at it, CRIMPING below R, and each of the three states at R. -/
theorem witness_CrimpAndRelease :
    classify forwardWords = .index forwardFrame ∧
    (boundAt 18 { state := .settling }).QueueLegal ∧ (boundAt 19 { state := .settling }).QueueLegal ∧
    (boundAt 19 { state := .settling }).stationC ≤ (boundAt 19 { state := .settling }).position 19 + 1 ∧
    (boundAt 22 { state := .crimping }).QueueLegal ∧
    (boundAt 22 { state := .crimping }).position 22 + 1 < (boundAt 22 { state := .crimping }).stationR ∧
    (boundAt 23 { state := .settling }).QueueLegal ∧ (boundAt 23 { state := .crimping }).QueueLegal ∧
    (boundAt 23 { state := .crimped }).QueueLegal ∧ (boundAt 23 { state := .crimped, enabled := false }).QueueLegal ∧
    (boundAt 23 { state := .crimped }).position 23 + 1 = (boundAt 23 { state := .crimped }).stationR ∧
    (boundAt 23 { state := .crimped }).follows forwardFrame :=
  ⟨forwardWords_class, .of_check (by decide +kernel), .of_check (by decide +kernel), by decide, .of_check (by decide +kernel), by decide,
    .of_check (by decide +kernel), .of_check (by decide +kernel), .of_check (by decide +kernel),
    .of_check (by decide +kernel), by decide, by unfold State.follows; decide⟩

theorem witness_VerdictAtGate : classify forwardWords = .index forwardFrame ∧
    (loadedAt .run 47 {}).bypassed = false ∧ (loadedAt .run 47 {}).Joined ∧
    ((loadedAt .run 47 {}).record 47).state = .loaded ∧
    (loadedAt .run 47 {}).position 47 + 1 = (loadedAt .run 47 {}).stationJ ∧
    (loadedAt .drain 47 { causes := 1, sample := some ⟨.any, 3⟩ }).Joined ∧
    (loadedAt .drain 47 {}).nc.mode ≠ .run ∧ (loadedAt .run 47 { sample := some ⟨.any, 3⟩ }).Joined ∧
    ({ loadedAt .run 47 {} with lp.candidate := some ⟨some 8, 3405, some 41⟩ } : State).Joined ∧
    ({ loadedAt .run 47 {} with rs.parkList := [⟨0, 1, 5⟩] } : State).Joined :=
  ⟨forwardWords_class, by decide, .of_check (by decide +kernel), by decide, by decide, .of_check (by decide +kernel), by decide,
    .of_check (by decide +kernel), .of_check (by decide +kernel), .of_check (by decide +kernel)⟩

/-- A node with the record bound to head 4 whose queue holds 48 commands of head 9. -/
def fullAt (k : Fin 64) (c : HeadContext) : State := { boundAt k c with lp.queue := List.replicate 48 ⟨9, .release, 0⟩ }

theorem witness_ReportsTakenInOrder : classify reportWords = .report ⟨false, []⟩ ∧ (awake .standby).bypassed = false := by decide

/-- One place below G, at G, and at C − 1 under the opening clause; the ENGAGED head below G under the other. -/
theorem witness_ClampedEventOpens : (4 : Word).toNat = (4 : Fin 24).val ∧
    (∀ k : Fin 64, k = 5 ∨ k = 6 ∨ k = 19 → (boundAt k { state := .engaged }).joinsCheck) ∧
    ((boundAt 5 { state := .engaged }).head 4).bound = some ⟨5, 7⟩ ∧
    ((boundAt 5 { state := .engaged }).head 4).state = .engaged ∧
    ¬ ((boundAt 5 { state := .engaged }).stationG ≤ (boundAt 5 { state := .engaged }).position 5) ∧
    (boundAt 6 { state := .engaged }).stationG ≤ (boundAt 6 { state := .engaged }).position 6 ∧
    (boundAt 19 { state := .engaged }).position 19 < (boundAt 19 { state := .engaged }).stationC ∧
    (boundAt 19 { state := .engaged }).lp.queue.length < 48 ∧ (fullAt 6 { state := .engaged }).Joined ∧
    48 ≤ (fullAt 6 { state := .engaged }).lp.queue.length :=
  ⟨rfl, by decide +kernel, by decide, by decide, by decide, by decide, by decide, by decide, .of_check (by decide +kernel),
    by decide⟩

/-- A head whose trailing record is LOADED, one with a bound record, and one with neither. -/
theorem witness_EventsCaptured : trailingAt.Joined ∧ (trailingAt.head 4).bound = none ∧
    (trailingAt.head 4).trailing = some ⟨28, 7⟩ ∧ (trailingAt.record 28).state = .loaded ∧
    (trailingAt.record 28).serial = 7 ∧ (boundAt 22 { state := .crimping }).Joined ∧
    ((boundAt 22 { state := .crimping }).head 4).bound = some ⟨22, 7⟩ ∧ (awake .run).Joined ∧
    ((awake .run).head 23).bound = none ∧ ((awake .run).head 23).trailing = none ∧ (23 : Word).toNat = (23 : Fin 24).val :=
  ⟨.of_check (by decide +kernel), by decide, by decide, by decide, by decide, .of_check (by decide +kernel), by decide,
    .of_check (by decide +kernel), by decide, by decide, by decide⟩

theorem witness_FaultTakesHeadOut : (4 : Word).toNat = (4 : Fin 24).val ∧ (boundAt 9 { state := .charging }).Joined ∧
    ((boundAt 9 { state := .charging }).head 4).bound = some ⟨9, 7⟩ ∧
    ((boundAt 9 { state := .charging }).lp.queue.filter (fun c => c.head != 4)).length < 48 ∧
    (awake .run).Joined ∧ ((awake .run).head 4).bound = none ∧ (fullAt 9 { state := .charging }).Joined ∧
    ((fullAt 9 { state := .charging }).head 4).bound = some ⟨9, 7⟩ ∧
    48 ≤ ((fullAt 9 { state := .charging }).lp.queue.filter (fun c => c.head != 4)).length :=
  ⟨rfl, .of_check (by decide +kernel), by decide, by decide, .of_check (by decide +kernel), by decide,
    .of_check (by decide +kernel), by decide, by decide⟩

/-- A CHARGING head that one pulse leaves above 0 and one that it brings to 0; a trailing record; and no record. -/
theorem witness_FlowCountsPulses : (4 : Word).toNat = (4 : Fin 24).val ∧
    (boundAt 9 { state := .charging, doseCounter := 2 }).QueueLegal ∧
    0 < ((boundAt 9 { state := .charging, doseCounter := 2 }).head 4).doseCounter - (1 : BitVec 8).toNat ∧
    (boundAt 9 { state := .charging, doseCounter := 1 }).QueueLegal ∧
    ((boundAt 9 { state := .charging, doseCounter := 1 }).head 4).doseCounter - (1 : BitVec 8).toNat ≤ 0 ∧
    trailingAt.QueueLegal ∧ (trailingAt.head 4).state ≠ .charging ∧ (awake .run).QueueLegal ∧
    ((awake .run).head 4).bound = none ∧ ((awake .run).head 4).trailing = none ∧
    (fullAt 9 { state := .charging, doseCounter := 1 }).QueueLegal ∧
    ((fullAt 9 { state := .charging, doseCounter := 1 }).head 4).bound = some ⟨9, 7⟩ ∧
    48 ≤ ((fullAt 9 { state := .charging, doseCounter := 1 }).lp.queue.filter
      (fun c => !(c.head == 4 && c.kind == .openGas))).length :=
  ⟨rfl, .of_check (by decide +kernel), by decide, .of_check (by decide +kernel), by decide, .of_check (by decide +kernel),
    by decide, .of_check (by decide +kernel), by decide, by decide, .of_check (by decide +kernel), by decide, by decide⟩

/-- A measurement of the LOADED record at 63's tag, of a FINAL one, of slot 64 and of a serial not held. -/
theorem witness_InfeedAndMeasureReports : (63 : Word).toNat = (63 : Fin 64).val ∧ ((loadedAt .run 47 {}).record 47).state = .loaded ∧
    ((loadedAt .run 47 {}).record 47).serial = 7 ∧ ((finalAt 63).record 63).state = .final ∧
    ((finalAt 63).record 63).serial = 7 ∧ 63 < (64 : Word).toNat ∧ ((loadedAt .run 47 {}).record 47).serial ≠ 8 ∧
    23 < (24 : Word).toNat := by decide

/-- Each case of R64: at the BOUND of a row, below every BOUND, with no temperature, with no rows. -/
theorem witness_DoseIsTrimmed : (awake .run).recipeWord 0 2 ≠ 0 ∧ (awake .run).hu.trimRows = 0 ∧ trimNode.recipeWord 0 2 ≠ 0 ∧
    trimNode.hu.trimRows ≠ 0 ∧ (3 : Fin 16).val < trimNode.hu.trimRows.toNat ∧
    (trimNode.hu.trim[(3 : Fin 16)]).bound.toInt ≤ 40 ∧
    (∀ j : Fin 16, 3 < j → j.val < trimNode.hu.trimRows.toNat → 40 < (trimNode.hu.trim[j]).bound.toInt) ∧
    (∀ j : Fin 16, j.val < trimNode.hu.trimRows.toNat → -21 < (trimNode.hu.trim[j]).bound.toInt) ∧
    trimNode.recipeWord 1 2 = 0 := by decide +kernel

theorem witness_ChargeLimitExpires :
    (boundAt 9 { state := .charging, timer := some ⟨0, 5000⟩ }).QueueLegal ∧
    ((boundAt 9 { state := .charging, timer := some ⟨0, 5000⟩ }).head 4).timer = some ⟨0, 5000⟩ ∧
    (5000 ≤ ((boundAt 9 { state := .charging, timer := some ⟨0, 5000⟩ }).clock - 0).toNat) ∧
    (∀ h', h' < 4 → ∀ d, ((boundAt 9 { state := .charging, timer := some ⟨0, 5000⟩ }).head h').timer = some d →
      ((boundAt 9 { state := .charging, timer := some ⟨0, 5000⟩ }).clock - d.since).toNat < d.ticks) ∧
    ((boundAt 9 { state := .charging, timer := some ⟨0, 5000⟩ }).head 4).bound = some ⟨9, 7⟩ ∧
    (fullAt 9 { state := .charging, timer := some ⟨0, 5000⟩ }).QueueLegal ∧
    ((fullAt 9 { state := .charging, timer := some ⟨0, 5000⟩ }).head 4).timer = some ⟨0, 5000⟩ ∧
    48 ≤ ((fullAt 9 { state := .charging, timer := some ⟨0, 5000⟩ }).lp.queue.filter
      (fun c => !(c.head == 4 && c.kind == .openGas))).length ∧
    (awake .run).QueueLegal ∧ ∀ h d, ((awake .run).head h).timer = some d → ((awake .run).clock - d.since).toNat < d.ticks := by
  refine ⟨.of_check (by decide +kernel), by decide, by decide, ?_, by decide, .of_check (by decide +kernel), by decide,
    by decide, .of_check (by decide +kernel), ?_⟩
  · intro h' lt d e
    have none_below : ∀ h : Fin 24, h < 4 →
        ((boundAt 9 { state := .charging, timer := some ⟨0, 5000⟩ }).head h).timer = none := by decide
    rw [none_below h' lt] at e
    cases e
  · intro h d e
    have none_set : ∀ h : Fin 24, ((awake .run).head h).timer = none := by decide
    rw [none_set h] at e
    cases e

theorem witness_SyncWakesNode : asleep.linkHeld = false ∧ asleep.nc.mode = .waitSync ∧ asleep.nc.wakeCount < 2 ∧
    ({ asleep with nc.wakeCount := 1 } : State).nc.wakeCount < 2 ∧
    ({ asleep with nc.wakeCount := 2 } : State).nc.wakeCount = 2 ∧ (awake .run).linkHeld = false ∧ (awake .run).ready := by
  unfold State.ready; decide

theorem witness_RequestsTurnedAway : requestOf (.read 3) = some (4, 3) ∧ (4 : Word) ≠ 1 ∧ asleep.nc.mode = .waitSync ∧
    asleep.linkHeld = false ∧ requestOf (.sync 3) = some (1, 3) ∧ (1 : Word) ≠ 2 ∧
    ({ awake .standby with nc.busy := .resetNode 0 } : State).bypassed = false ∧
    ({ awake .standby with nc.busy := .resetNode 0 } : State).nc.busy ≠ .idle := by decide

theorem witness_ServiceFrameTakesRequest : (⟨5, 6, 1, 1, 0, 0⟩ : ServiceFrame).destination = (awake .run).lp.nodeAddress.setWidth 16 ∧
    requestOf (.read 1) = some ((⟨5, 4, 1, 0, 0, 0⟩ : ServiceFrame).code, 1) ∧ (awake .run).linkHeld = false ∧
    (⟨5, 6, 1, 1, 0, 0⟩ : ServiceFrame).code = 6 ∧ (awake .run).ready ∧ 19 < (20 : Word).toNat ∧
    2 < (3 : Word).toNat := by unfold State.ready; decide

/-- An unknown code and a MODE operand of 3, in WAIT_SYNC and during a busy operation. -/
theorem witness_ServiceFrameTurnedAway : asleep.nc.mode = .waitSync ∧ asleep.linkHeld = false ∧
    (⟨5, 77, 1, 0, 0, 0⟩ : ServiceFrame).destination = asleep.lp.nodeAddress.setWidth 16 ∧
    (⟨5, 77, 1, 0, 0, 0⟩ : ServiceFrame).code ≠ 1 ∧ (⟨5, 6, 1, 3, 0, 0⟩ : ServiceFrame).code ≠ 2 ∧
    ({ awake .standby with nc.busy := .resetNode 0 } : State).bypassed = false ∧
    ({ awake .standby with nc.busy := .resetNode 0 } : State).nc.busy ≠ .idle := by decide

theorem witness_StatusReadsState : (awake .run).bypassed = false ∧
    ({ awake .trip with nc.busy := .resetNode 0 } : State).bypassed = false ∧ (⟨7, 1535⟩ : Pointer).index < 2048 := by decide

/-- The last window and the first that is none; the last index of RING and one past it; both directions and one past them. -/
theorem witness_PointSetsPointer : (awake .run).ready ∧ 9 < (10 : Word).toNat ∧ (9 : Word).toNat = (9 : Fin 10).val ∧
    (1535 : Word).toNat < windowLength 7 ∧ windowLength 7 ≤ (1536 : Word).toNat ∧ (0 : Word).toNat = Direction.up.code ∧
    (1 : Word).toNat = Direction.down.code ∧ 1 < (2 : Word).toNat := by unfold State.ready; decide

/-- UP from the last index of a window, and DOWN from index 0. -/
theorem witness_ReadAdvances : (awake .run).ready ∧ (awake .run).nc.pointer.index < windowLength (awake .run).nc.pointer.window ∧
    ((awake .run).nc.direction = .up → 1 = ((awake .run).nc.pointer.index + 1) % windowLength 0) ∧
    (14 + 1) % windowLength 0 = 0 ∧ (0 + windowLength 0 - 1) % windowLength 0 = 14 := by unfold State.ready; decide

/-- The last TALLY counter of a slot, an occupied and an empty PARK place, and an occupied and an empty SAMPLE place. -/
theorem witness_WindowsShowState :
    [(1 : BitVec 32), 2, 3, 4, 5][(4 : Fin 5).val]? = some 5 ∧
    ({ awake .run with rs.parkList := [⟨3, 6, 1700⟩] } : State).rs.parkList[(0 : Fin 16).val]? = some ⟨3, 6, 1700⟩ ∧
    (awake .run).rs.parkList[(15 : Fin 16).val]? = none ∧
    ({ awake .run with vu.samples := [⟨.slot 5, 18⟩] } : State).vu.samples[(0 : Fin 4).val]? = some ⟨.slot 5, 18⟩ ∧
    (awake .run).vu.samples[(3 : Fin 4).val]? = none := by decide

/-- The last cause and the last alert of the lists. -/
theorem witness_CodesAsListed :
    [Cause.noHead, .noClamp, .shortGas, .overtime, .noBottom, .headFault, .headStopped, .jogBack, .frameLoss, .tripped,
      .tempRange, .missingValue, .gasMass, .crimpHeight, .crimpDiameter, .chargeTime, .overshoot, .noCrimp][17]? =
        some .noCrimp ∧
    [AlertKind.uncodedCan, .slotEmpty, .parkFull, .sampleLost, .frameDamaged, .linkGap, .trackLost, .headFault, .strayFlow,
      .strayEvent, .staleReport, .lateReport, .queueFull, .vent, .trip][14]? = some .trip := by decide

/-- A WRITE at each pointer and at both ends of each range. -/
theorem witness_WriteStoresOrRefuses : ({ awake .standby with nc.pointer := ⟨0, 4⟩ } : State).ready ∧
    (5 ≤ (5 : Word).toNat ∧ (2000 : Word).toNat ≤ 2000 ∧ ¬ (5 ≤ (4 : Word).toNat) ∧ ¬ ((2001 : Word).toNat ≤ 2000)) ∧
    ((16 : Word).toNat ≤ 16 ∧ 16 < (17 : Word).toNat) ∧
    (512 ≤ (512 : Word).toNat ∧ (2047 : Word).toNat ≤ 2047 ∧ ¬ (512 ≤ (511 : Word).toNat) ∧
      ¬ ((2048 : Word).toNat ≤ 2047)) ∧
    ({ awake .standby with nc.pointer := ⟨1, 6⟩ } : State).nc.pointer = ⟨1, (6 : Fin 7).val⟩ ∧
    ({ awake .run with nc.pointer := ⟨1, 6⟩ } : State).nc.mode ≠ .standby ∧
    ({ awake .run with nc.pointer := ⟨2, 30⟩ } : State).nc.pointer = ⟨2, 2 * (15 : Fin 16).val⟩ ∧
    ({ awake .run with nc.pointer := ⟨2, 31⟩ } : State).nc.pointer = ⟨2, 2 * (15 : Fin 16).val + 1⟩ ∧
    4 ≤ ({ awake .run with nc.pointer := ⟨4, 0⟩ } : State).nc.pointer.window.val ∧
    (awake .run).nc.pointer.window = 0 ∧ (awake .run).nc.pointer.index ≠ 4 := by unfold State.ready; decide

/-- A direct write, a full list and a parked write of DOSE at both ends of its range, and values just outside. -/
theorem witness_RecipeWriteOrParks : ({ awake .run with nc.pointer := ⟨3, 1⟩ } : State).ready ∧
    ({ awake .run with nc.pointer := ⟨3, 1⟩ } : State).nc.pointer = ⟨3, 16 * (0 : Fin 8).val + (1 : Fin 16).val⟩ ∧
    recipeRange 1 0 = false ∧ recipeRange 1 1 = true ∧ recipeRange 1 20000 = true ∧ recipeRange 1 20001 = false ∧
    (awake .run).rs.scope = none ∧ (awake .run).inUse 0 = 0 ∧ (∀ e ∈ (awake .run).rs.parkList, e.slot ≠ 0) ∧
    (loadedAt .run 9 {}).inUse 0 ≠ 0 ∧ (loadedAt .run 9 {}).rs.parkList.length < 16 ∧
    16 ≤ ({ loadedAt .run 9 {} with rs.parkList := List.replicate 16 ⟨0, 1, 5⟩ } : State).rs.parkList.length ∧
    ({ loadedAt .run 9 {} with rs.parkList := List.replicate 15 ⟨0, 1, 5⟩ } : State).rs.parkList.length < 16 := by
  unfold State.ready; decide

theorem witness_ModeChangesByRequest : (∀ m, m = .standby ∨ m = .run ∨ m = .drain ∨ m = .trip → (awake m).ready) ∧
    (awake .standby).stationsValid = true ∧
    ({ awake .standby with tu.stations := #v[4, 6, 20, 28, 30, 36, 48] } : State).stationsValid = false ∧
    ({ awake .standby with tu.stations := #v[4, 6, 20, 27, 30, 36, 62] } : State).stationsValid = true ∧
    (awake .run).nc.ringEmpty = true ∧ (loadedAt .run 9 {}).nc.ringEmpty = false ∧ (loadedAt .run 9 {}).ready ∧
    (loadedAt .trip 9 {}).nc.ringEmpty = false := by
  refine ⟨?_, ?_⟩
  · rintro m (h | h | h | h) <;> subst h <;> (unfold State.ready; decide)
  · unfold State.ready; decide

theorem witness_BusyOperations : (awake .standby).ready ∧ (awake .run).ready ∧ 9 < (10 : Word).toNat ∧
    (8 : Word).toNat ∈ [0, 1, 4, 5, 6, 7, 8] ∧ (awake .run).nc.mode ≠ .standby ∧
    1000 ≤ ((awake .run).clock - 4000).toNat ∧ ((awake .run).clock - 4001).toNat < 1000 ∧
    (∀ x : ClearTarget, ({ awake .standby with nc.busy := .clearWindow x 4000 } : State).nc.busy = .clearWindow x 4000) ∧
    (∀ x c, (awake .run).nc.busy ≠ .clearWindow x c) ∧
    ({ awake .trip with nc.busy := .resetNode 3001 } : State).nc.busy = .resetNode 3001 ∧
    ((awake .trip).clock - 3001).toNat < 2000 ∧ ∀ c, (awake .trip).nc.busy ≠ .resetNode c := by
  refine ⟨by unfold State.ready; decide, by unfold State.ready; decide, by decide, by decide, by decide, by decide,
    by decide, fun x => rfl, fun x c h => (by cases h), rfl,
    by decide, fun c h => by cases h⟩

theorem witness_WarmResetCompletes : ({ awake .trip with nc.busy := .resetNode 3000 } : State).nc.busy = .resetNode 3000 ∧
    2000 ≤ (({ awake .trip with nc.busy := .resetNode 3000 } : State).clock - 3000).toNat := ⟨rfl, by decide⟩

/-- Each selector at the ends of its range. -/
theorem witness_HeadEnableAndDisable : (awake .run).ready ∧ selectHeads 0 23 0 = some [23] ∧ selectHeads 0 24 0 = none ∧
    selectHeads 1 24 0 = some (List.finRange 24) ∧ selectHeads 1 0 0 = some (List.finRange 24) ∧
    selectHeads 1 1 0 = some [0] ∧ selectHeads 1 25 0 = none ∧ selectHeads 2 0x8000 0x80 = some [15, 23] ∧
    selectHeads 2 0 0 = none ∧ selectHeads 2 1 0x100 = none ∧ selectHeads 3 0 0 = none := by
  unfold State.ready; decide +kernel

theorem witness_HeadStopAborts : (boundAt 6 { state := .charging }).ready ∧ (boundAt 6 { state := .charging }).Joined ∧
    selectHeads 0 4 0 = some [4] ∧
    [4] = ([4] : List (Fin 24)).filter (fun h => ((boundAt 6 { state := .charging }).head h).state.isBound) ∧
    (boundAt 6 { state := .charging }).lp.queue.length + [4].length ≤ 48 ∧
    (fullAt 6 { state := .charging }).ready ∧ (fullAt 6 { state := .charging }).Joined ∧
    ((fullAt 6 { state := .charging }).head 4).bound = some ⟨6, 7⟩ ∧
    48 ≤ ((fullAt 6 { state := .charging }).lp.queue.filter (fun c => c.head != 4)).length :=
  ⟨by unfold State.ready; decide, .of_check (by decide +kernel), by decide, by decide, by decide,
    by unfold State.ready; decide, .of_check (by decide +kernel), by decide, by decide⟩

/-- Both ends of each operand of SAMPLE, a list of three and of four, a node asleep and a busy one. -/
theorem witness_SampleJoinsList : (awake .run).ready ∧ 2 < (3 : Word).toNat ∧ 7 < (8 : Word).toNat ∧ 23 < (24 : Word).toNat ∧
    255 < (256 : Word).toNat ∧ (255 : Word).toNat = (255 : BitVec 8).toNat ∧ (7 : Word).toNat = (7 : Fin 8).val ∧
    (23 : Word).toNat = (23 : Fin 24).val ∧
    4 ≤ ({ awake .run with vu.samples := List.replicate 4 ⟨.any, 0⟩ } : State).vu.samples.length ∧
    ({ awake .run with vu.samples := List.replicate 3 ⟨.any, 0⟩ } : State).vu.samples.length < 4 ∧
    asleep.linkHeld = false ∧ asleep.nc.mode = .waitSync ∧
    ({ awake .standby with nc.busy := .resetNode 0 } : State).nc.busy ≠ .idle := by unfold State.ready; decide

theorem witness_TallyClearBalances : (loadedAt .run 9 {}).ready ∧ asleep.linkHeld = false ∧ asleep.nc.mode = .waitSync ∧
    ({ awake .standby with nc.busy := .resetNode 0 } : State).bypassed = false ∧
    ({ awake .standby with nc.busy := .resetNode 0 } : State).nc.busy ≠ .idle := by unfold State.ready; decide

theorem witness_ClearAlertsRemovesNamed : (awake .run).ready ∧ (0x7FFF : Word).getLsbD 15 = false ∧
    (0x8000 : Word).getLsbD 15 = true := by unfold State.ready; decide

theorem witness_ScopesAndUnpark : (awake .trip).ready ∧ (awake .run).ready ∧ (awake .run).rs.scope = none ∧
    ({ awake .run with rs.scope := some 0 } : State).rs.scope.isSome = true ∧
    ({ awake .run with rs.scope := some 0 } : State).ready ∧ (awake .run).rs.parkList = [] ∧
    ({ awake .run with rs.parkList := [⟨0, 1, 5⟩], rs.scope := some 1 } : State).rs.parkList = [] ++ [⟨0, 1, 5⟩] ∧
    ({ awake .run with rs.parkList := [⟨0, 1, 5⟩], rs.scope := some 1 } : State).rs.scope = some 1 := by
  unfold State.ready; decide

/-- A list with one entry outside an open scope and one inside it; and a list with no scope. -/
def parkStore (scope : Option Nat) : RecipeStore := { parkList := [⟨0, 1, 5⟩, ⟨1, 1, 6⟩], scope := scope }

theorem witness_ApplicationStoresAndRemoves :
    ((∀ m, (parkStore (some 1)).scope = some m → m ≤ (parkStore (some 1)).parkList.length) ∧
      [⟨0, 1, 5⟩] ++ [⟨1, 1, 6⟩] = (parkStore (some 1)).parkList ∧
      (∀ m, (parkStore (some 1)).scope = some m → ([⟨0, 1, 5⟩] : List ParkEntry).length = m) ∧
      (parkStore (some 1)).scope ≠ none) ∧
    (∀ m, (parkStore none).scope = some m → m ≤ (parkStore none).parkList.length) ∧
    [⟨0, 1, 5⟩, ⟨1, 1, 6⟩] ++ [] = (parkStore none).parkList ∧ (parkStore none).inUse[(0 : Fin 8)] = 0 := by
  refine ⟨⟨?_, by decide, ?_, by decide⟩, ?_, by decide, by decide⟩ <;> (intro m h; cases h; try decide)

/-- A WRITE that changes a recipe word. -/
theorem witness_RecipeWordsFixedInUse : (awake .standby).ModesLegal ∧ (awake .standby).Accounted ∧
    ({ awake .standby with nc.pointer := ⟨3, 1⟩ } : State).ModesLegal ∧
    ({ awake .standby with nc.pointer := ⟨3, 1⟩ } : State).Accounted ∧
    exec (.write 0 9) { awake .standby with nc.pointer := ⟨3, 1⟩ } =
      .next (after (.write 0 9) { awake .standby with nc.pointer := ⟨3, 1⟩ }) ∧
    (after (.write 0 9) { awake .standby with nc.pointer := ⟨3, 1⟩ }).recipeWord 0 1 ≠ 1800 :=
  ⟨.of_check (by decide +kernel), .of_check (by decide +kernel), .of_check (by decide +kernel),
    .of_check (by decide +kernel), rfl, by decide +kernel⟩

theorem witness_VerdictsStand : (finalAt 47).Accounted ∧ ((finalAt 47).record 47).state = .final ∧
    exec (.indexFrame forwardWords) (finalAt 47) = .next (after (.indexFrame forwardWords) (finalAt 47)) :=
  ⟨.of_check (by decide +kernel), by decide, rfl⟩

/-- A node in RUN at work meets every invariant, and a step of it is taken. -/
def workNode : State := { boundAt 9 { state := .charging, doseCounter := 5, timer := some ⟨0, 9000⟩ } with
  lp.queue := [⟨4, .openGas, 0⟩]
  pending := [.lineClockTick] }

theorem witness_StepKeepsInvariants : workNode.Bounded ∧ workNode.ModesLegal ∧ workNode.RecordsLegal ∧ workNode.QueueLegal ∧
    step workNode = .next { workNode with clock := 5001, pending := [] } :=
  ⟨.of_check (by decide +kernel), .of_check (by decide +kernel), .of_check (by decide +kernel),
    .of_check (by decide +kernel), rfl⟩

end Sys2Proof.Tests
end

-- ==== Proofs: requests by the part's mode, and SAMPLE and TALLY CLEAR ====
section
/-! PROOF. What a request command leaves in each mode of the part, for any request (R154), and from it what SAMPLE (R99)
and TALLY CLEAR (R104) do. -/

namespace Sys2Proof.Machine

/-! ### A request command by the part's mode (R154) -/

/-- A request that its owner only answers changes nothing but LP, which takes the REPLY. -/
theorem requestArrival_answered {s : State} (ready : s.ready) {code : Word} {tag : BitVec 8} {a b c : Word} {q : Request}
    (carried : (s.requestFrame code tag a b c).request = q) {x : Answer}
    (own : takeOwned q (restartGap s) = (x, restartGap s)) :
    requestArrival code tag a b c s = s.answered code tag x := by
  rw [requestArrival_ready ready code tag a b c q carried, own]
  rfl

/-- In WAIT_SYNC every request but SYNC is answered NOT_AWAKE and sets the wake count to 0 (R141). -/
theorem requestArrival_notAwake {s : State} (held : s.linkHeld = false) (wait : s.nc.mode = .waitSync) {code : Word}
    {tag : BitVec 8} {a b c : Word} {q : Request} (carried : (s.requestFrame code tag a b c).request = q)
    (other : q ≠ .sync) :
    requestArrival code tag a b c s = { s with
      lp.transit := s.lp.transit ++ [s.replyFrame code tag { status := .notAwake }], nc.wakeCount := 0 } := by
  rw [requestArrival_wait held wait, serviceArrival, carried, takeRequest_notAwake wait other, replyLead_eq]
  rfl

/-- During a busy operation every request but STATUS is answered BUSY and changes nothing else. -/
theorem requestArrival_busy {s : State} (awake : s.bypassed = false) (busy : s.nc.busy ≠ .idle) {code : Word}
    {tag : BitVec 8} {a b c : Word} {q : Request} (carried : (s.requestFrame code tag a b c).request = q)
    (other : q ≠ .status) :
    requestArrival code tag a b c s = s.answered code tag { status := .busy } := by
  have refused : takeRequest q (restartGap s) = ({ status := .busy }, restartGap s) :=
    takeRequest_busy (s := restartGap s) (bypassed_false awake).2 (running_of_ne busy) other
  rw [requestArrival_awake awake, serviceArrival, carried, refused]
  rfl

/-! ### The requests SAMPLE and TALLY CLEAR carry (R166) -/

theorem requestFrame_sample (s : State) (tag : BitVec 8) (kind arg stag : Word) :
    (s.requestFrame 10 tag kind arg stag).request = .sample kind arg stag := rfl

theorem requestFrame_tallyClear (s : State) (tag : BitVec 8) :
    (s.requestFrame 18 tag 0 0 0).request = .tallyClear := rfl

/-! ### SAMPLE (R98, R99) -/

/-- Which cans a request matches (R98, R100). -/
theorem isFor_iff (q : SampleKind) (k : Fin 8) (h : Fin 24) :
    q.isFor k h = true ↔ q = .any ∨ q = .slot k ∨ q = .head h := by
  cases q <;> simp [SampleKind.isFor]

/-- A SAMPLE is malformed when its kind names none, its argument names no slot or head, or its tag is above 255. -/
theorem decodeSample_malformed {kind arg stag : Word}
    (bad : 2 < kind.toNat ∨ (kind = 1 ∧ 7 < arg.toNat) ∨ (kind = 2 ∧ 23 < arg.toNat) ∨ 255 < stag.toNat) :
    decodeSample kind arg stag = none := by
  unfold decodeSample
  split
  next tagFits =>
    rcases bad with noKind | ⟨rfl, noSlot⟩ | ⟨rfl, noHead⟩ | noTag
    · split
      · omega
      · omega
      · omega
      · rfl
    · exact dif_neg (by omega)
    · have unread : decodeHead arg.toNat = none := dif_neg (by omega)
      simp [unread]
    · omega
  next => rfl

/-- A well-formed SAMPLE carries its request: ANY whatever its argument, or the slot or head its argument names. -/
theorem decodeSample_wellFormed {kind arg stag : Word} {q : SampleRequest} (tagged : stag.toNat = q.tag.toNat)
    (named : (kind = 0 ∧ q.kind = .any) ∨ (∃ k : Fin 8, kind = 1 ∧ arg.toNat = k.val ∧ q.kind = .slot k) ∨
      (∃ h : Fin 24, kind = 2 ∧ arg.toNat = h.val ∧ q.kind = .head h)) :
    decodeSample kind arg stag = some q := by
  obtain ⟨asked, t⟩ := q
  have tagFits : stag.toNat ≤ 255 := tagged ▸ Nat.le_of_lt_succ t.isLt
  have tagRead : stag.setWidth 8 = t := by
    apply BitVec.eq_of_toNat_eq
    rw [BitVec.toNat_setWidth, tagged, Nat.mod_eq_of_lt t.isLt]
  rw [decodeSample, if_pos tagFits, tagRead]
  rcases named with ⟨rfl, rfl⟩ | ⟨k, rfl, slot, rfl⟩ | ⟨h, rfl, head, rfl⟩
  · rfl
  · simp [slot]
  · simp [decodeHead, head]

theorem takeSample_malformed {kind arg stag : Word} (bad : decodeSample kind arg stag = none) (s : State) :
    takeSample kind arg stag s = ({ status := .badValue }, s) := by simp [takeSample, bad, refuse]

theorem takeSample_full {kind arg stag : Word} {q : SampleRequest} (asked : decodeSample kind arg stag = some q)
    {s : State} (full : 4 ≤ s.vu.samples.length) :
    takeSample kind arg stag s = ({ status := .listFull }, s) := by simp [takeSample, asked, full.not_gt, refuse]

theorem takeSample_joins {kind arg stag : Word} {q : SampleRequest} (asked : decodeSample kind arg stag = some q)
    {s : State} (room : s.vu.samples.length < 4) :
    takeSample kind arg stag s = ({ status := .done, result0 := BitVec.ofNat 16 (s.vu.samples.length + 1) },
      { s with vu.samples := s.vu.samples ++ [q] }) := by simp [takeSample, asked, room]

/-- SAMPLE is the arrival of its SERVICE frame. -/
theorem exec_sample (tag : BitVec 8) (kind arg stag : Word) (s : State) :
    exec (.sample tag kind arg stag) s = .next (requestArrival 10 tag kind arg stag s) := rfl

/-- Settles O47: what the SAMPLE's operands spell decides the answer of a ready part, and the mode that of any other. -/
theorem sampleJoinsList : Obligations.SampleJoinsList := by
  refine ⟨isFor_iff, fun tag kind arg stag s => ?_⟩
  rw [exec_sample]
  have carried := requestFrame_sample s tag kind arg stag
  refine ⟨?malformed, ?wellFormed, ?notAwake, ?busy⟩
  case malformed =>
    intro ready bad
    rw [requestArrival_answered ready carried (takeSample_malformed (decodeSample_malformed bad) (restartGap s))]
  case wellFormed =>
    intro q ready tagged named
    have asked := decodeSample_wellFormed tagged named
    constructor
    · intro full
      rw [requestArrival_answered ready carried (takeSample_full (s := restartGap s) asked full)]
    · intro room
      have own : takeOwned (.sample kind arg stag) (restartGap s) = _ := takeSample_joins (s := restartGap s) asked room
      rw [requestArrival_ready ready _ _ _ _ _ _ carried, own]
      rfl
  case notAwake =>
    intro held wait
    rw [requestArrival_notAwake held wait carried (by simp)]
  case busy =>
    intro awake busy
    rw [requestArrival_busy awake busy carried (by simp)]

/-! ### TALLY CLEAR (R104) -/

theorem takeTallyClear_eq (s : State) : takeTallyClear s = ({ status := .done },
    { s with vu.tallies := Vector.ofFn (fun k => ⟨BitVec.ofNat 32 (s.inUse k), 0, 0, 0, 0⟩) }) := rfl

/-- TALLY CLEAR is the arrival of its SERVICE frame. -/
theorem exec_tallyClear (tag : BitVec 8) (s : State) :
    exec (.tallyClear tag) s = .next (requestArrival 18 tag 0 0 0 s) := rfl

/-- Settles O48: a ready part clears with the in-use counts as they stood before the arrival, which the restart of the frame
gap timer leaves; the mode decides the answer of any other. -/
theorem tallyClearBalances : Obligations.TallyClearBalances := by
  intro tag s
  rw [exec_tallyClear]
  have carried := requestFrame_tallyClear s tag
  refine ⟨?cleared, ?notAwake, ?busy⟩
  case cleared =>
    intro ready
    have own : takeOwned .tallyClear (restartGap s) = _ := takeTallyClear_eq (restartGap s)
    simp only [restartGap_inUseAt] at own
    rw [requestArrival_ready ready _ _ _ _ _ _ carried, own]
    rfl
  case notAwake =>
    intro held wait
    rw [requestArrival_notAwake held wait carried (by simp)]
  case busy =>
    intro awake busy
    rw [requestArrival_busy awake busy carried (by simp)]

end Sys2Proof.Machine
end

-- ==== Proofs: SCOPE OPEN, SCOPE CLOSE, SCOPE ABANDON and UNPARK ====
section
/-! PROOF. What the requests on the scope and the tail of the Park List do, each by its conditions in order: SCOPE OPEN (R117),
SCOPE CLOSE (R118), SCOPE ABANDON (R119) and UNPARK (R120). -/

namespace Sys2Proof.Machine

/-- A request whose owner changes the Recipe Store alone leaves that store, and in LP the REPLY. -/
theorem requestArrival_stored {s : State} (ready : s.ready) {code : Word} {tag : BitVec 8} {a b c : Word} {q : Request}
    (carried : (s.requestFrame code tag a b c).request = q) {x : Answer} {store : RecipeStore}
    (own : takeOwned q (restartGap s) = (x, { restartGap s with rs := store })) :
    requestArrival code tag a b c s = { s with lp := s.replied code tag x, rs := store } := by
  rw [requestArrival_ready ready code tag a b c q carried, own]
  rfl

/-! ### The commands and the requests they carry (R166) -/

theorem exec_scopeOpen (tag : BitVec 8) (s : State) :
    exec (.scopeOpen tag) s = .next (requestArrival 11 tag 0 0 0 s) := rfl

theorem exec_scopeClose (tag : BitVec 8) (s : State) :
    exec (.scopeClose tag) s = .next (requestArrival 12 tag 0 0 0 s) := rfl

theorem exec_scopeAbandon (tag : BitVec 8) (s : State) :
    exec (.scopeAbandon tag) s = .next (requestArrival 13 tag 0 0 0 s) := rfl

theorem exec_unpark (tag : BitVec 8) (s : State) :
    exec (.unpark tag) s = .next (requestArrival 14 tag 0 0 0 s) := rfl

theorem requestFrame_scopeOpen (s : State) (tag : BitVec 8) :
    (s.requestFrame 11 tag 0 0 0).request = .scopeOpen := rfl

theorem requestFrame_scopeClose (s : State) (tag : BitVec 8) :
    (s.requestFrame 12 tag 0 0 0).request = .scopeClose := rfl

theorem requestFrame_scopeAbandon (s : State) (tag : BitVec 8) :
    (s.requestFrame 13 tag 0 0 0).request = .scopeAbandon := rfl

theorem requestFrame_unpark (s : State) (tag : BitVec 8) :
    (s.requestFrame 14 tag 0 0 0).request = .unpark := rfl

/-! ### SCOPE OPEN (R117) -/

theorem takeScopeOpen_trip {s : State} (trip : s.nc.mode = .trip) :
    takeScopeOpen s = ({ status := .refusedMode }, s) := by simp [takeScopeOpen, trip, refuse]

theorem takeScopeOpen_already {s : State} (untripped : s.nc.mode ≠ .trip) (opened : s.rs.scope.isSome = true) :
    takeScopeOpen s = ({ status := .scopeOpen }, s) := by simp [takeScopeOpen, untripped, opened, refuse]

theorem takeScopeOpen_opens {s : State} (untripped : s.nc.mode ≠ .trip) (closed : s.rs.scope = none) :
    takeScopeOpen s = ({ status := .done, result0 := BitVec.ofNat 16 s.rs.parkList.length },
      { s with rs.scope := some s.rs.parkList.length }) := by simp [takeScopeOpen, untripped, closed]

/-! ### SCOPE CLOSE (R118) -/

theorem takeScopeClose_closed {s : State} (closed : s.rs.scope = none) :
    takeScopeClose s = ({ status := .noScope }, s) := by simp [takeScopeClose, closed, refuse]

/-- The scope is closed first, so that the application finds every entry outside it. -/
theorem takeScopeClose_applies {s : State} {m : Nat} (opened : s.rs.scope = some m) :
    takeScopeClose s = ({ status := .done },
      { s with rs := ({ s.rs with scope := none } : RecipeStore).applyParked (fun _ => true) }) := by
  simp [takeScopeClose, opened, applyParked]

/-! ### SCOPE ABANDON (R119) -/

theorem takeScopeAbandon_closed {s : State} (closed : s.rs.scope = none) :
    takeScopeAbandon s = ({ status := .noScope }, s) := by simp [takeScopeAbandon, closed, refuse]

theorem takeScopeAbandon_drops {s : State} {m : Nat} (opened : s.rs.scope = some m) :
    takeScopeAbandon s = ({ status := .done }, { s with rs.parkList := s.rs.parkList.take m, rs.scope := none }) := by
  simp [takeScopeAbandon, opened]

/-! ### UNPARK (R120) -/

theorem takeUnpark_empty {s : State} (empty : s.rs.parkList = []) :
    takeUnpark s = ({ status := .parkEmpty }, s) := by simp [takeUnpark, empty, refuse]

theorem takeUnpark_atMark {s : State} {es : List ParkEntry} {e : ParkEntry} (newest : s.rs.parkList = es ++ [e])
    (atMark : s.rs.scope = some (es.length + 1)) :
    takeUnpark s = ({ status := .underMark }, s) := by simp [takeUnpark, newest, atMark, refuse]

theorem takeUnpark_removes {s : State} {es : List ParkEntry} {e : ParkEntry} (newest : s.rs.parkList = es ++ [e])
    (offMark : s.rs.scope ≠ some (es.length + 1)) :
    takeUnpark s = (⟨.done, BitVec.ofNat 16 e.slot.val, BitVec.ofNat 16 e.word.val, e.value,
      BitVec.ofNat 16 es.length⟩, { s with rs.parkList := es }) := by simp [takeUnpark, newest, offMark]

/-- Settles O50: what each request's owner does by its conditions, carried to the command; the restart of the frame gap timer
at the arrival leaves the mode, the scope and the Park List that the conditions read. -/
theorem scopesAndUnpark : Obligations.ScopesAndUnpark := by
  intro tag s ready
  rw [exec_scopeOpen, exec_scopeClose, exec_scopeAbandon, exec_unpark]
  have carriedOpen := requestFrame_scopeOpen s tag
  have carriedClose := requestFrame_scopeClose s tag
  have carriedAbandon := requestFrame_scopeAbandon s tag
  have carriedUnpark := requestFrame_unpark s tag
  refine ⟨?openTrip, ?openAlready, ?opens, ?noScope, ?endScope, ?unparkEmpty, ?unparkNewest⟩
  case openTrip =>
    intro trip
    rw [requestArrival_answered ready carriedOpen (takeScopeOpen_trip (s := restartGap s) trip)]
  case openAlready =>
    intro untripped opened
    rw [requestArrival_answered ready carriedOpen (takeScopeOpen_already (s := restartGap s) untripped opened)]
  case opens =>
    intro untripped closed
    rw [requestArrival_stored ready carriedOpen (takeScopeOpen_opens (s := restartGap s) untripped closed)]
    rfl
  case noScope =>
    intro closed
    constructor
    · rw [requestArrival_answered ready carriedClose (takeScopeClose_closed (s := restartGap s) closed)]
    · rw [requestArrival_answered ready carriedAbandon (takeScopeAbandon_closed (s := restartGap s) closed)]
  case endScope =>
    intro m opened
    constructor
    · rw [requestArrival_stored ready carriedClose (takeScopeClose_applies (s := restartGap s) opened)]
      rfl
    · rw [requestArrival_stored ready carriedAbandon (takeScopeAbandon_drops (s := restartGap s) opened)]
      rfl
  case unparkEmpty =>
    intro empty
    rw [requestArrival_answered ready carriedUnpark (takeUnpark_empty (s := restartGap s) empty)]
  case unparkNewest =>
    intro es e newest
    constructor
    · intro atMark
      rw [requestArrival_answered ready carriedUnpark (takeUnpark_atMark (s := restartGap s) newest atMark)]
    · intro offMark
      rw [requestArrival_stored ready carriedUnpark (takeUnpark_removes (s := restartGap s) newest offMark)]
      rfl

end Sys2Proof.Machine
end

-- ==== Proofs: the completion of a warm reset ====
section
/-! PROOF. What the completion of a warm reset leaves in each block (R152): the latch refilled from NODE word 0 (R156), each head
after the reset (R58, R78), and from them the state after the reset, table by table. -/

namespace Sys2Proof.Machine

/-- A deadline is reached when its ticks have gone by on the clock (R61). -/
theorem reached_iff (s : State) (since : Clock) (ticks : Nat) :
    s.reached since ticks = true ↔ ticks ≤ (s.clock - since).toNat :=
  decide_eq_true_iff

/-- A fill at NODE word 0 puts the mode's code into the latch and leaves the clock hold (R156). -/
theorem fillLatch_modeWord {s : State} (atMode : s.nc.pointer = ⟨0, 0⟩) :
    fillLatch s = { s with nc.latch := BitVec.ofNat 16 s.nc.mode.code, nc.stale := false } := by
  simp [fillLatch, atMode, State.windowWord, State.nodeWord]

/-- A head after a warm reset (R58, R78): a FAULTED one stays, any other is IDLE or DISABLED by its flag. -/
theorem HeadContext.warm_eq (c : HeadContext) : c.warm = {
    state := if c.state = .faulted then .faulted else if c.enabled = true then .idle else .disabled
    enabled := c.enabled
    bound := none
    trailing := none
    clampWait := 0
    doseCounter := 0
    timer := none } := rfl

/-- The state a warm reset leaves (R152): the fill of the latch at NODE word 0 reads STANDBY's code, 0. -/
theorem warmReset_eq (s : State) : warmReset s = { s with
    tu.ring := Vector.replicate 64 Record.cleared
    tu.origin := 0
    hu.heads := s.hu.heads.map HeadContext.warm
    lp := { s.lp with queue := [], candidate := none, unchecked := true }
    vu := {}
    rs.inUse := Vector.replicate 8 0
    rs.parkList := []
    rs.scope := none
    nc := { clockHold := s.nc.clockHold, mode := .standby, stale := false } } := by
  rw [warmReset, fillLatch_modeWord rfl]
  rfl

/-! ### The tables after a warm reset -/

@[simp] theorem warmReset_record (s : State) (k : Fin 64) : (warmReset s).record k = Record.cleared := by
  simp [warmReset_eq, State.record]

@[simp] theorem warmReset_head (s : State) (h : Fin 24) : (warmReset s).head h = (s.head h).warm := by
  simp [warmReset_eq, State.head]

@[simp] theorem warmReset_tally (s : State) (k : Fin 8) : (warmReset s).vu.tallies[k] = ⟨0, 0, 0, 0, 0⟩ := by
  simp [warmReset_eq]

@[simp] theorem warmReset_inUse (s : State) (k : Fin 8) : (warmReset s).inUse k = 0 := by
  simp [warmReset_eq, State.inUse]

/-! ### The command -/

/-- WARM_RESET_COMPLETION, once the ticks of the reset have gone by, makes the warm reset (R151, R152). -/
theorem exec_warmResetCompletion_due {s : State} {since : Clock} (busy : s.nc.busy = .resetNode since)
    (due : 2000 ≤ (s.clock - since).toNat) : exec .warmResetCompletion s = .next (warmReset s) := by
  have reached : s.reached since Config.resetNodeTicks = true := (reached_iff s since _).mpr due
  have done : completeReset s = warmReset s := by simp [completeReset, busy, reached]
  exact congrArg Host.Outcome.next done

/-- Settles O44: the command makes the warm reset; its tables are read by their lemmas, and every other field is the one that
`warmReset_eq` writes or keeps. -/
theorem warmResetCompletes : Obligations.WarmResetCompletes := by
  intro s since busy due
  have heads (h : Fin 24) := (warmReset_head s h).trans (s.head h).warm_eq
  refine ⟨warmReset s, exec_warmResetCompletion_due busy due, warmReset_record s, ?origin, ?stations, ?nextSerial, heads,
    ?trim, ?trimRows, ?linkPort, ?samples, warmReset_tally s, warmReset_inUse s, ?recipeNodeAndClock⟩
  all_goals simp [warmReset_eq]

end Sys2Proof.Machine
end

-- ==== Proofs: READ and STATUS ====
section
/-! PROOF. What READ (R157) and STATUS (R159) answer and leave: setting the pointer in the form of the claims (R156), the advance
by one word with its wrap in both directions, and the bits of a pointer word (R166). -/

namespace Sys2Proof.Machine

/-! ### Setting the pointer (R156) -/

/-- No window shows the pointer or the direction (R168). -/
theorem windowWord_pointer (s : State) (p : Pointer) (d : Direction) (w : Fin 10) (i : Nat) :
    ({ s with nc.pointer := p, nc.direction := d } : State).windowWord w i = s.windowWord w i := rfl

/-- No window shows the frame gap timer (R168). -/
@[simp] theorem restartGap_windowWord (s : State) (w : Fin 10) (i : Nat) :
    (restartGap s).windowWord w i = s.windowWord w i := rfl

@[simp] theorem restartGap_pointed (s : State) (p : Pointer) (d : Direction) :
    (restartGap s).pointed p d = s.pointed p d := by simp [State.pointed]

/-- Setting the pointer changes NC alone; the clock hold is taken only at NODE word 7. -/
theorem setPointer_eq (p : Pointer) (d : Direction) (s : State) :
    setPointer p d s = { s with nc := s.pointed p d } := by
  unfold setPointer fillLatch State.pointed
  rw [windowWord_pointer]
  by_cases atClock : p = ⟨0, 7⟩
  · simp [atClock]
  · simp [atClock]

/-! ### The advance of the pointer (R157) -/

@[simp] theorem restartGap_nextPointer (s : State) : (restartGap s).nextPointer = s.nextPointer := rfl

/-- UP from the last index of a window goes on at index 0. -/
theorem advance_up {p : Pointer} (inside : p.index < windowLength p.window) :
    p.advance .up = ⟨p.window, (p.index + 1) % windowLength p.window⟩ := by
  by_cases below : p.index + 1 < windowLength p.window
  · simp [Pointer.advance, below, Nat.mod_eq_of_lt below]
  · have last : p.index + 1 = windowLength p.window := by omega
    simp [Pointer.advance, last]

/-- DOWN from index 0 goes on at the last index of the window. -/
theorem advance_down {p : Pointer} (inside : p.index < windowLength p.window) :
    p.advance .down = ⟨p.window, (p.index + windowLength p.window - 1) % windowLength p.window⟩ := by
  obtain ⟨w, i⟩ := p
  cases i with
  | zero => simp [Pointer.advance, Nat.mod_eq_of_lt (Nat.sub_one_lt_of_lt inside)]
  | succ j =>
    have below : j < windowLength w := Nat.lt_of_succ_lt inside
    simp [Pointer.advance, Nat.add_right_comm j 1, Nat.mod_eq_of_lt below]

/-- The pointer after the advance, from its window and its index by direction. -/
theorem nextPointer_eq {s : State} {p : Pointer} (inside : s.nc.pointer.index < windowLength s.nc.pointer.window)
    (window : p.window = s.nc.pointer.window)
    (up : s.nc.direction = .up → p.index = (s.nc.pointer.index + 1) % windowLength p.window)
    (down : s.nc.direction = .down →
      p.index = (s.nc.pointer.index + windowLength p.window - 1) % windowLength p.window) :
    s.nextPointer = p := by
  obtain ⟨w, i⟩ := p
  subst window
  rw [State.nextPointer]
  cases way : s.nc.direction with
  | up => rw [advance_up inside, ← up way]
  | down => rw [advance_down inside, ← down way]

/-! ### READ (R157) -/

/-- A flag as a number and as a result word (R166). -/
theorem flagBit_eq (b : Bool) : flagBit b = if b = true then 1 else 0 := by cases b <;> rfl

theorem flagBit_word (b : Bool) : BitVec.ofNat 16 (flagBit b) = if b = true then 1 else 0 := by cases b <;> rfl

theorem takeRead_eq (s : State) : takeRead s = (
    { status := .done
      result0 := s.nc.latch
      result1 := if s.nc.stale = true then 1 else 0
      result2 := pointerWord s.nextPointer s.nc.direction },
    { s with nc := s.pointed s.nextPointer s.nc.direction }) := by
  rw [takeRead, setPointer_eq, flagBit_word]

/-- READ is the arrival of its SERVICE frame. -/
theorem exec_read (tag : BitVec 8) (s : State) : exec (.read tag) s = .next (requestArrival 4 tag 0 0 0 s) := rfl

theorem requestFrame_read (s : State) (tag : BitVec 8) : (s.requestFrame 4 tag 0 0 0).request = .read := rfl

/-- Settles O37: the place the direction gives is the one the owner of READ moves to; the restart of the frame gap timer at
the arrival leaves the pointer, the latch and every word a window shows. -/
theorem readAdvances : Obligations.ReadAdvances := by
  intro tag s p ready inside window up down
  have moved : s.nextPointer = p := nextPointer_eq inside window up down
  have own : takeOwned .read (restartGap s) = _ := takeRead_eq (restartGap s)
  simp only [restartGap_nextPointer, restartGap_pointed, restartGap_nc, moved] at own
  refine ⟨?_, moved⟩
  rw [exec_read, requestArrival_ready ready _ _ _ _ _ _ (requestFrame_read s tag), own]
  rfl

/-! ### STATUS (R159) -/

theorem takeStatus_eq (s : State) : takeStatus s = (
    { status := .done
      result0 := BitVec.ofNat 16 (s.nc.mode.code + 16 * s.nc.busy.code)
      result1 := BitVec.ofNat 16 ((if s.nc.stale = true then 1 else 0) + 16 * tripCauseCode s.nc.tripCause)
      result2 := s.nc.alerts.setWidth 16
      result3 := pointerWord s.nc.pointer s.nc.direction }, s) := by
  simp only [takeStatus, State.statusResult0, State.statusResult1, State.alertWord, flagBit_eq]

/-- STATUS is the arrival of its SERVICE frame. -/
theorem exec_status (tag : BitVec 8) (s : State) : exec (.status tag) s = .next (requestArrival 2 tag 0 0 0 s) := rfl

theorem requestFrame_status (s : State) (tag : BitVec 8) : (s.requestFrame 2 tag 0 0 0).request = .status := rfl

/-- Out of bypass STATUS is taken by its own rule, during a busy operation too. -/
theorem requestArrival_status {s : State} (awake : s.bypassed = false) (tag : BitVec 8) :
    requestArrival 2 tag 0 0 0 s = s.answered 2 tag (takeStatus s).1 := by
  have own : takeRequest .status (restartGap s) = takeOwned .status (restartGap s) :=
    takeRequest_owned (s := restartGap s) (bypassed_false awake).2 (.inr rfl)
  rw [requestArrival_awake awake, serviceArrival, requestFrame_status, own]
  rfl

/-! ### The bits of a pointer word (R166) -/

/-- The three fields of a pointer word do not overlap: 11 bits of index, 4 of window, 1 of direction. -/
theorem pointerWord_toNat {p : Pointer} (d : Direction) (fits : p.index < 2048) :
    (pointerWord p d).toNat = p.index + 2048 * p.window.val + 32768 * d.code := by
  have windowFits := p.window.isLt
  have directionFits : d.code < 2 := by cases d <;> decide
  rw [pointerWord, BitVec.toNat_ofNat, Nat.mod_eq_of_lt (by omega)]

theorem pointerWord_index {p : Pointer} (d : Direction) (fits : p.index < 2048) :
    ((pointerWord p d).extractLsb' 0 11).toNat = p.index := by
  rw [BitVec.extractLsb'_toNat, pointerWord_toNat d fits, Nat.shiftRight_zero]
  omega

theorem pointerWord_window {p : Pointer} (d : Direction) (fits : p.index < 2048) :
    ((pointerWord p d).extractLsb' 11 4).toNat = p.window.val := by
  have windowFits := p.window.isLt
  rw [BitVec.extractLsb'_toNat, pointerWord_toNat d fits, Nat.shiftRight_eq_div_pow]
  omega

theorem pointerWord_direction {p : Pointer} (d : Direction) (fits : p.index < 2048) :
    (pointerWord p d).getLsbD 15 = (d == .down) := by
  have windowFits := p.window.isLt
  have topBit : (p.index + 2048 * p.window.val + 32768 * d.code) / 2 ^ 15 = d.code := by omega
  rw [BitVec.getLsbD, pointerWord_toNat d fits, Nat.testBit_eq_decide_div_mod_eq, topBit]
  cases d <;> rfl

/-- Settles O35: STATUS is taken out of bypass whether or not a busy operation runs, and answers from the state unchanged; the
bits of a pointer word are read back from its value. -/
theorem statusReadsState : Obligations.StatusReadsState := by
  constructor
  · intro tag s awake
    rw [exec_status, requestArrival_status awake, takeStatus_eq]
  · intro p d fits
    exact ⟨pointerWord_index d fits, pointerWord_window d fits, pointerWord_direction d fits⟩

end Sys2Proof.Machine
end

-- ==== Proofs: the commands and the invariants of a step ====
section
/-! PROOF. What a command can be to the state, said once: each of the 37 rows is one of nine events, and the arrival of a frame
is one of seven. From it the totality of the commands, and the rule by which an invariant is shown of every step. -/

namespace Sys2Proof.Machine

/-! ### The events behind the commands -/

/-- What a command does to the state: the arrival of some frame's words, or an event of the part and its pins. -/
inductive Happens : Instr → State → State → Prop where
  | cold (s : State) : Happens .coldReset s (coldReset s)
  | release (straps : BitVec 6) (s : State) : Happens (.coldResetRelease straps) s (releasePin straps s)
  | tick (s : State) : Happens .lineClockTick s (tick s)
  | frame (c : Instr) (ws : List Word) (s : State) : Happens c s (frameArrival ws s)
  | departure (s : State) : Happens .frameDeparture s (departOldest s)
  | gap (s : State) : Happens .frameGapExpiry s (gapExpiry s)
  | charge (s : State) : Happens .chargeLimitExpiry s (nextChargeExpiry s)
  | clear (s : State) : Happens .clearWindowCompletion s (completeClear s)
  | reset (s : State) : Happens .warmResetCompletion s (completeReset s)

/-- Every command answers a next state, by one of these events; a request command is the arrival of its SERVICE frame. -/
theorem exec_happens (c : Instr) (s : State) : ∃ t, exec c s = .next t ∧ Happens c s t := by
  cases c with
  | coldReset => exact ⟨_, rfl, .cold s⟩
  | coldResetRelease straps => exact ⟨_, rfl, .release straps s⟩
  | frameDeparture => exact ⟨_, rfl, .departure s⟩
  | frameGapExpiry => exact ⟨_, rfl, .gap s⟩
  | chargeLimitExpiry => exact ⟨_, rfl, .charge s⟩
  | clearWindowCompletion => exact ⟨_, rfl, .clear s⟩
  | warmResetCompletion => exact ⟨_, rfl, .reset s⟩
  | lineClockTick => exact ⟨_, rfl, .tick s⟩
  | _ => exact ⟨_, rfl, .frame _ _ s⟩

theorem happens_of_exec {c : Instr} {s t : State} (taken : exec c s = .next t) : Happens c s t := by
  obtain ⟨u, answer, event⟩ := exec_happens c s
  cases answer.symm.trans taken
  exact event

/-- What the arrival of a frame does: it passes in bypass, or it is taken by its class out of bypass, or its request is taken.
The frame gap timer restarts but for a request taken in WAIT_SYNC. -/
inductive Arrives (s : State) : State → Prop where
  | passes (ws : List Word) : Arrives s (passBypass ws s)
  | forwarded (ws : List Word) : Arrives s (putTransit (.unchanged ws) (restartGap s))
  | damaged (ws : List Word) : Arrives s (takeDamaged ws (restartGap s))
  | index (f : IndexFrame) (ws : List Word) : Arrives s (takeIndex f ws (restartGap s))
  | report (f : ReportFrame) (ws : List Word) : Arrives s (takeReportFrame f ws (restartGap s))
  | carrier (vent : Bool) (ws : List Word) : Arrives s (takeCarrier vent ws (restartGap s))
  | request (f : ServiceFrame) (held : s.linkHeld = false) : Arrives s (serviceArrival f (restartGap s))
  | wake (f : ServiceFrame) (held : s.linkHeld = false) : Arrives s (serviceArrival f s)

theorem waitArrival_arrives (ws : List Word) {s : State} (held : s.linkHeld = false) : Arrives s (waitArrival ws s) := by
  unfold waitArrival
  cases classify ws with
  | service f =>
    dsimp only
    split
    · exact .wake f held
    · exact .passes ws
  | _ => exact .passes ws

theorem awakeArrival_arrives (ws : List Word) {s : State} (held : s.linkHeld = false) : Arrives s (awakeArrival ws s) := by
  cases e : classify ws with
  | damaged => rw [awake_damaged e]; exact .damaged ws
  | unknown => rw [awake_unknown e]; exact .forwarded ws
  | index f => rw [awake_index e]; exact .index f ws
  | report f => rw [awake_report e]; exact .report f ws
  | carrier vent => rw [awake_carrier e]; exact .carrier vent ws
  | reply => rw [awake_reply e]; exact .forwarded ws
  | service f =>
    rw [awake_service e]
    split
    · exact .request f held
    · exact .forwarded ws

theorem frameArrival_arrives (ws : List Word) (s : State) : Arrives s (frameArrival ws s) := by
  cases held : s.linkHeld with
  | true => rw [frameArrival_held held]; exact .passes ws
  | false =>
    by_cases wait : s.nc.mode = .waitSync
    · rw [frameArrival_wait held wait]; exact waitArrival_arrives ws held
    · have awake : s.bypassed = false := by simp [State.bypassed, held, wait]
      rw [frameArrival_awake awake]; exact awakeArrival_arrives ws held

theorem pin_of_notHeld {s : State} (held : s.linkHeld = false) : s.coldResetPin = false := by
  simp only [State.linkHeld, Bool.or_eq_false_iff] at held
  exact held.1

/-! ### The step -/

theorem step_front {s : State} {c : Instr} {rest : List Instr} (front : s.pending = c :: rest) :
    step s = exec c { s with pending := rest } := by simp [step, front]

theorem step_idle {s : State} (empty : s.pending = []) : step s = .next s := by simp [step, empty]

/-- Settles O1: the two cases of the queue. -/
theorem stepTakesFront : Obligations.StepTakesFront :=
  ⟨fun _ _ _ front => step_front front, fun _ empty => step_idle empty⟩

/-! ### The rule for invariants -/

/-- What the link alone changes: LP's frames, timer and turret check, the output, the queue of commands and the clock. -/
def State.relinked (s : State) (transit : List TransitFrame) (gapTimer : GapTimer) (count : Word) (phase : Fin 24)
    (unchecked : Bool) (linkOut : List (List Word)) (pending : List Instr) (clock : Clock) : State :=
  { s with
    lp := { s.lp with transit, gapTimer, lastCount := count, lastPhase := phase, unchecked }
    linkOut, pending, clock }

/-- A property that no part of an event breaks. -/
structure Invariant (P : State → Prop) : Prop where
  link : ∀ s transit gapTimer count phase unchecked linkOut pending clock, P s →
    P (s.relinked transit gapTimer count phase unchecked linkOut pending clock)
  trip : ∀ cause s, P s → P (requestTrip cause s)
  advance : ∀ a φ s, P s → P (takeAdvance a φ s).2
  report : ∀ s r, P s → P (takeReport s r)
  loss : ∀ s, P s → P (frameLoss (raiseAlert .frameDamaged s))
  request : ∀ q s, s.coldResetPin = false → P s → P (takeRequest q s).2
  departs : ∀ s, P s → P (departCommands s)
  charge : ∀ s, P s → P (nextChargeExpiry s)
  clear : ∀ s, P s → P (completeClear s)
  reset : ∀ s, P s → P (completeReset s)
  cold : ∀ s, P s → P (coldReset s)
  release : ∀ straps s, P s → P (releasePin straps s)

namespace Invariant
variable {P : State → Prop}

theorem putTransit (inv : Invariant P) (x : TransitFrame) {s : State} (p : P s) : P (putTransit x s) :=
  inv.link s (s.lp.transit ++ [x]) s.lp.gapTimer s.lp.lastCount s.lp.lastPhase s.lp.unchecked s.linkOut s.pending s.clock p

theorem sendOut (inv : Invariant P) (ws : List Word) {s : State} (p : P s) : P (sendOut ws s) :=
  inv.link s s.lp.transit s.lp.gapTimer s.lp.lastCount s.lp.lastPhase s.lp.unchecked (s.linkOut ++ [ws]) s.pending s.clock p

theorem restartGap (inv : Invariant P) {s : State} (p : P s) : P (restartGap s) :=
  inv.link s s.lp.transit (.running s.clock) s.lp.lastCount s.lp.lastPhase s.lp.unchecked s.linkOut s.pending s.clock p

theorem adopt (inv : Invariant P) (f : IndexFrame) {s : State} (p : P s) : P (adopt f s) :=
  inv.link s s.lp.transit s.lp.gapTimer f.count f.phase false s.linkOut s.pending s.clock p

theorem takeVent (inv : Invariant P) (vent : Bool) {s : State} (p : P s) : P (takeVent vent s) := by
  unfold Machine.takeVent
  split
  · exact inv.trip _ _ p
  · exact p

theorem turretCheck (inv : Invariant P) (f : IndexFrame) {s : State} (p : P s) : P (turretCheck f s) := by
  unfold Machine.turretCheck
  split
  · exact inv.adopt f (inv.trip _ _ p)
  · exact inv.adopt f p

theorem reports (inv : Invariant P) (rs : List Report) {s : State} (p : P s) : P (rs.foldl takeReport s) := by
  induction rs generalizing s with
  | nil => exact p
  | cons r rs ih => exact ih (inv.report s r p)

theorem passBypass (inv : Invariant P) (ws : List Word) {s : State} (p : P s) : P (passBypass ws s) := by
  unfold Machine.passBypass
  split
  · exact inv.sendOut ws p
  · exact inv.putTransit _ p

theorem serviceArrival (inv : Invariant P) (f : ServiceFrame) {s : State} (pin : s.coldResetPin = false) (p : P s) :
    P (serviceArrival f s) := inv.putTransit _ (inv.request _ _ pin p)

theorem arrives (inv : Invariant P) {s t : State} (arrival : Arrives s t) (p : P s) : P t := by
  cases arrival with
  | passes ws => exact inv.passBypass ws p
  | forwarded ws => exact inv.putTransit _ (inv.restartGap p)
  | damaged ws => exact inv.putTransit _ (inv.loss _ (inv.restartGap p))
  | index f ws => exact inv.putTransit _ (inv.advance _ _ _ (inv.takeVent _ (inv.turretCheck f (inv.restartGap p))))
  | report f ws => exact inv.putTransit _ (inv.reports _ (inv.takeVent _ (inv.restartGap p)))
  | carrier vent ws => exact inv.putTransit _ (inv.takeVent _ (inv.restartGap p))
  | request f held => exact inv.serviceArrival f (pin_of_notHeld held) (inv.restartGap p)
  | wake f held => exact inv.serviceArrival f (pin_of_notHeld held) p

theorem departFrame (inv : Invariant P) (x : TransitFrame) {s : State} (p : P s) : P (departFrame x s) := by
  cases x with
  | unchanged ws => exact inv.sendOut _ p
  | reply lead => exact inv.sendOut _ p
  | accepted lead => exact inv.sendOut _ (inv.departs s p)

theorem departOldest (inv : Invariant P) {s : State} (p : P s) : P (departOldest s) := by
  unfold Machine.departOldest
  cases s.lp.transit with
  | nil => exact p
  | cons x rest =>
    exact inv.departFrame x (inv.link s rest s.lp.gapTimer s.lp.lastCount s.lp.lastPhase s.lp.unchecked s.linkOut
      s.pending s.clock p)

theorem gapExpiry (inv : Invariant P) {s : State} (p : P s) : P (gapExpiry s) := by
  unfold Machine.gapExpiry
  split
  · exact inv.trip _ _ (inv.link s s.lp.transit .expired s.lp.lastCount s.lp.lastPhase s.lp.unchecked s.linkOut
      s.pending s.clock p)
  · exact p

theorem tick (inv : Invariant P) {s : State} (p : P s) : P (tick s) := by
  unfold Machine.tick
  split
  · exact p
  · exact inv.link s s.lp.transit s.lp.gapTimer s.lp.lastCount s.lp.lastPhase s.lp.unchecked s.linkOut s.pending
      (s.clock + 1) p

theorem exec (inv : Invariant P) {c : Instr} {s t : State} (taken : exec c s = .next t) (p : P s) : P t := by
  cases happens_of_exec taken with
  | cold => exact inv.cold s p
  | release straps => exact inv.release straps s p
  | tick => exact inv.tick p
  | frame _ ws => exact inv.arrives (frameArrival_arrives ws s) p
  | departure => exact inv.departOldest p
  | gap => exact inv.gapExpiry p
  | charge => exact inv.charge s p
  | clear => exact inv.clear s p
  | reset => exact inv.reset s p

/-- Every step keeps an invariant: the command at the front of the queue does, on the state with the queue's rest. -/
theorem step (inv : Invariant P) {s t : State} (taken : step s = .next t) (p : P s) : P t := by
  cases queue : s.pending with
  | nil => rw [step_idle queue] at taken; cases taken; exact p
  | cons c rest =>
    rw [step_front queue] at taken
    exact inv.exec taken (inv.link s s.lp.transit s.lp.gapTimer s.lp.lastCount s.lp.lastPhase s.lp.unchecked s.linkOut
      rest s.clock p)

end Invariant

end Sys2Proof.Machine
end

-- ==== Proofs: what the Head Unit's operations leave ====
section
/-! PROOF. One relation for every operation on heads and on the records of cans: what it leaves in each block, what it may add to
a record and to the alerts, and how it may change the mode. It holds in every state, and one lemma per operation says so. -/

namespace Sys2Proof.Machine

/-! ### The relation -/

/-- The parts of the state that no operation of HU writes. -/
def State.calm (s : State) :=
  (s.fixed, s.vu, s.rs, s.tu.origin, s.tu.nextSerial, s.lp.candidate, s.lp.lastCount, s.lp.lastPhase, s.lp.unchecked,
    s.nc.wakeCount, s.nc.busy, s.nc.ringEmpty, s.nc.pointer, s.nc.direction, s.nc.latch, s.nc.stale, s.nc.clockHold)

/-- The fields of a record that a can keeps from its FEED to its verdict (R28, R95). -/
def Record.card (r : Record) :=
  (r.state, r.serial, r.product, r.recipe, r.predicted, r.tare, r.temperature, r.sample, r.verdict)

/-- A later state of the same can's record: its causes only grow (R7). -/
structure Record.Grows (r r' : Record) : Prop where
  card : r'.card = r.card
  causes : ∀ c, hasCause c r.causes = true → hasCause c r'.causes = true

theorem Record.Grows.refl (r : Record) : r.Grows r := ⟨rfl, fun _ h => h⟩

theorem Record.Grows.trans {a b c : Record} (x : a.Grows b) (y : b.Grows c) : a.Grows c :=
  ⟨y.card.trans x.card, fun q h => y.causes q (x.causes q h)⟩

theorem Record.Grows.state {a b : Record} (x : a.Grows b) : b.state = a.state := congrArg (·.1) x.card
theorem Record.Grows.serial {a b : Record} (x : a.Grows b) : b.serial = a.serial := congrArg (·.2.1) x.card
theorem Record.Grows.recipe {a b : Record} (x : a.Grows b) : b.recipe = a.recipe := congrArg (·.2.2.2.1) x.card
theorem Record.Grows.sample {a b : Record} (x : a.Grows b) : b.sample = a.sample := congrArg (·.2.2.2.2.2.2.2.1) x.card
theorem Record.Grows.verdict {a b : Record} (x : a.Grows b) : b.verdict = a.verdict := congrArg (·.2.2.2.2.2.2.2.2) x.card

/-- State t follows s by operations on heads and cans, with trip causes found only among C: no other block changes, a record
that is not LOADED stays, a LOADED one grows, alerts are only raised, the queue stays within its capacity, and the mode stays
or a trip of RUN or DRAIN was made. -/
structure Quiet (C : TripCause → Prop) (s t : State) : Prop where
  calm : t.calm = s.calm
  grows : ∀ k, (s.record k).Grows (t.record k)
  kept : ∀ k, (s.record k).state ≠ .loaded → t.record k = s.record k
  mode : (t.nc.mode = s.nc.mode ∧ t.nc.tripCause = s.nc.tripCause) ∨
    (s.working ∧ t.nc.mode = .trip ∧ (∃ c, C c ∧ t.nc.tripCause = some c) ∧ hasAlert .trip t.nc.alerts = true ∧
      ∀ k, (t.record k).state = .loaded → hasCause .tripped (t.record k).causes = true)
  raised : ∀ a, hasAlert a s.nc.alerts = true → hasAlert a t.nc.alerts = true
  others : ∀ c : TripCause, ¬ C c → hasAlert c.alert t.nc.alerts = hasAlert c.alert s.nc.alerts
  queue : s.lp.queue.length ≤ 48 → t.lp.queue.length ≤ 48

/-- The trip cause that an operation of HU can find: a full Command Queue (R136). -/
abbrev onlyFull (c : TripCause) : Prop := c = .queueFull

namespace Quiet
variable {C : TripCause → Prop}

@[refl] theorem refl (s : State) : Quiet C s s :=
  ⟨rfl, fun _ => .refl _, fun _ _ => rfl, .inl ⟨rfl, rfl⟩, fun _ h => h, fun _ _ => rfl, fun h => h⟩

@[trans] theorem trans {s t u : State} (x : Quiet C s t) (y : Quiet C t u) : Quiet C s u where
  calm := y.calm.trans x.calm
  grows k := (x.grows k).trans (y.grows k)
  kept k h := (y.kept k (by rwa [x.kept k h])).trans (x.kept k h)
  mode := by
    rcases x.mode with ⟨sameMode, sameCause⟩ | ⟨working, trip, cause, alert, tripped⟩
    · simpa only [State.working, sameMode, sameCause] using y.mode
    · rcases y.mode with ⟨sameMode, sameCause⟩ | ⟨again, -⟩
      · refine .inr ⟨working, sameMode.trans trip, by rwa [sameCause], y.raised _ alert, fun k loaded => ?_⟩
        exact (y.grows k).causes _ (tripped k (by rwa [← (y.grows k).state]))
      · simp [State.working, trip] at again
  raised a h := y.raised a (x.raised a h)
  others c h := (y.others c h).trans (x.others c h)
  queue h := y.queue (x.queue h)

theorem weaken {D : TripCause → Prop} (sub : ∀ c, C c → D c) {s t : State} (x : Quiet C s t) : Quiet D s t where
  calm := x.calm
  grows := x.grows
  kept := x.kept
  mode := x.mode.imp_right fun ⟨w, m, ⟨c, h, e⟩, rest⟩ => ⟨w, m, ⟨c, sub c h, e⟩, rest⟩
  raised := x.raised
  others c h := x.others c (fun h' => h (sub c h'))
  queue := x.queue

theorem foldl {α : Type} {f : State → α → State} (each : ∀ s x, Quiet C s (f s x)) (xs : List α) (s : State) :
    Quiet C s (xs.foldl f s) := by
  induction xs generalizing s with
  | nil => exact refl s
  | cons x xs ih => exact (each s x).trans (ih _)

/-! ### Reading the relation -/

/-- Reading `calm` part by part. -/
theorem parts {s t : State} (x : Quiet C s t) : t.fixed = s.fixed ∧ t.vu = s.vu ∧ t.rs = s.rs ∧
    t.tu.origin = s.tu.origin ∧ t.tu.nextSerial = s.tu.nextSerial ∧ t.lp.candidate = s.lp.candidate ∧
    t.lp.lastCount = s.lp.lastCount ∧ t.lp.lastPhase = s.lp.lastPhase ∧ t.lp.unchecked = s.lp.unchecked ∧
    t.nc.wakeCount = s.nc.wakeCount ∧ t.nc.busy = s.nc.busy ∧ t.nc.ringEmpty = s.nc.ringEmpty ∧
    t.nc.pointer = s.nc.pointer ∧ t.nc.direction = s.nc.direction ∧ t.nc.latch = s.nc.latch ∧
    t.nc.stale = s.nc.stale ∧ t.nc.clockHold = s.nc.clockHold := by
  simpa only [State.calm, Prod.mk.injEq] using x.calm

theorem fixed {s t : State} (x : Quiet C s t) : t.fixed = s.fixed := congrArg (·.1) x.calm
theorem vu {s t : State} (x : Quiet C s t) : t.vu = s.vu := congrArg (·.2.1) x.calm
theorem rs {s t : State} (x : Quiet C s t) : t.rs = s.rs := congrArg (·.2.2.1) x.calm
theorem origin {s t : State} (x : Quiet C s t) : t.tu.origin = s.tu.origin := congrArg (·.2.2.2.1) x.calm
theorem nextSerial {s t : State} (x : Quiet C s t) : t.tu.nextSerial = s.tu.nextSerial := congrArg (·.2.2.2.2.1) x.calm
theorem candidate {s t : State} (x : Quiet C s t) : t.lp.candidate = s.lp.candidate := congrArg (·.2.2.2.2.2.1) x.calm
theorem busy {s t : State} (x : Quiet C s t) : t.nc.busy = s.nc.busy := congrArg (·.2.2.2.2.2.2.2.2.2.2.1) x.calm
theorem ringEmpty {s t : State} (x : Quiet C s t) : t.nc.ringEmpty = s.nc.ringEmpty :=
  congrArg (·.2.2.2.2.2.2.2.2.2.2.2.1) x.calm
theorem stations {s t : State} (x : Quiet C s t) : t.tu.stations = s.tu.stations := by
  obtain ⟨-, -, -, -, -, -, -, -, e, -⟩ := fixed_parts x.fixed
  exact e
theorem coldResetPin {s t : State} (x : Quiet C s t) : t.coldResetPin = s.coldResetPin := (fixed_parts x.fixed).2.1
theorem transit {s t : State} (x : Quiet C s t) : t.lp.transit = s.lp.transit := (fixed_parts x.fixed).2.2.2.2.1
theorem position {s t : State} (x : Quiet C s t) (k : Fin 64) : t.position k = s.position k := by
  simp only [State.position, x.origin]
theorem slotAt {s t : State} (x : Quiet C s t) (p : Nat) : t.slotAt p = s.slotAt p := by
  simp only [State.slotAt, x.origin]
theorem recipeWord {s t : State} (x : Quiet C s t) (k : Fin 8) (w : Fin 16) : t.recipeWord k w = s.recipeWord k w := by
  simp only [State.recipeWord, x.rs]
theorem inUse {s t : State} (x : Quiet C s t) (k : Fin 8) : t.inUse k = s.inUse k := by simp only [State.inUse, x.rs]
theorem state {s t : State} (x : Quiet C s t) (k : Fin 64) : (t.record k).state = (s.record k).state := (x.grows k).state

/-- A mode that is not RUN or DRAIN stays. -/
theorem mode_resting {s t : State} (x : Quiet C s t) (rest : ¬ s.working) :
    t.nc.mode = s.nc.mode ∧ t.nc.tripCause = s.nc.tripCause := by
  rcases x.mode with same | ⟨working, -⟩
  · exact same
  · exact absurd working rest

/-! ### The plain updates -/

theorem setHead (h : Fin 24) (c : HeadContext) (s : State) : Quiet C s (s.setHead h c) :=
  ⟨rfl, fun _ => .refl _, fun _ _ => rfl, .inl ⟨rfl, rfl⟩, fun _ h => h, fun _ _ => rfl, fun h => h⟩

theorem heads (v : Vector HeadContext 24) (s : State) : Quiet C s { s with hu.heads := v } :=
  ⟨rfl, fun _ => .refl _, fun _ _ => rfl, .inl ⟨rfl, rfl⟩, fun _ h => h, fun _ _ => rfl, fun h => h⟩

theorem queued {q : List HeadCommand} {s : State} (short : s.lp.queue.length ≤ 48 → q.length ≤ 48) :
    Quiet C s { s with lp.queue := q } :=
  ⟨rfl, fun _ => .refl _, fun _ _ => rfl, .inl ⟨rfl, rfl⟩, fun _ h => h, fun _ _ => rfl, short⟩

theorem setRecord {k : Fin 64} {r : Record} {s : State} (loaded : (s.record k).state = .loaded)
    (grows : (s.record k).Grows r) : Quiet C s (s.setRecord k r) where
  calm := rfl
  grows j := by
    rw [record_setRecord]; split
    · subst j; exact grows
    · exact .refl _
  kept j h := by
    have other : j ≠ k := by rintro rfl; exact h loaded
    rw [record_setRecord_ne other]
  mode := .inl ⟨rfl, rfl⟩
  raised _ h := h
  others _ _ := rfl
  queue h := h

/-- An alert that is no trip cause's own, or is that of a cause in C. -/
theorem raiseAlert {a : AlertKind} (own : ∀ c : TripCause, c.alert = a → C c) (s : State) :
    Quiet C s (raiseAlert a s) where
  calm := rfl
  grows _ := .refl _
  kept _ _ := rfl
  mode := .inl ⟨rfl, rfl⟩
  raised b h := by simp [hasAlert_addAlert, h]
  others c h := by
    have other : c.alert ≠ a := fun e => h (own c e)
    simp [hasAlert_addAlert, other]
  queue h := h

theorem writeLoaded {l : Link} {f : Record → Record} (grows : ∀ r : Record, r.Grows (f r)) (s : State) :
    Quiet C s (writeLoaded l f s) := by
  unfold Machine.writeLoaded
  split
  next named =>
    have loaded : (s.record l.slot).state = .loaded := by
      simp only [State.namesLoaded, Bool.and_eq_true, beq_iff_eq] at named; exact named.1
    exact setRecord loaded (grows _)
  next => exact refl s

end Quiet

theorem grows_causes {r : Record} (x : CauseSet) (h : ∀ c, hasCause c r.causes = true → hasCause c x = true) :
    r.Grows { r with causes := x } := ⟨rfl, h⟩

theorem grows_addCause (c : Cause) (r : Record) : r.Grows { r with causes := addCause c r.causes } :=
  ⟨rfl, fun q h => by simp [hasCause_addCause, h]⟩

theorem grows_bound (b : Bool) (r : Record) : r.Grows { r with bound := b } := ⟨rfl, fun _ h => h⟩

theorem grows_pulses (n : Nat) (r : Record) : r.Grows { r with pulses := n } := ⟨rfl, fun _ h => h⟩

theorem hasCause_addCauseIf {c : Cause} (k : Option Cause) {x : CauseSet} (h : hasCause c x = true) :
    hasCause c (addCauseIf k x) = true := by cases k <;> simp [addCauseIf, hasCause_addCause, h]

theorem grows_dosed (dose : Option Nat) (k : Option Cause) (r : Record) :
    r.Grows { r with doseLoaded := dose, causes := addCauseIf k r.causes } := ⟨rfl, fun _ h => hasCause_addCauseIf k h⟩

theorem grows_released (k : Option Cause) (r : Record) :
    r.Grows { r with released := true, causes := addCauseIf k r.causes } := ⟨rfl, fun _ h => hasCause_addCauseIf k h⟩

theorem grows_tripRecord (r : Record) : r.Grows (tripRecord r) := by
  unfold tripRecord
  split
  · exact grows_addCause _ r
  · exact .refl r

theorem tripRecord_tripped {r : Record} (loaded : (tripRecord r).state = .loaded) :
    hasCause .tripped (tripRecord r).causes = true := by
  have was : r.state = .loaded := (grows_tripRecord r).state ▸ loaded
  simp [tripRecord, was, hasCause_addCause]

/-! ### The trip entry and the Command Queue -/

/-- The trip entry before its heads are taken: mode, cause and alert, TRIPPED on every LOADED record, the queue emptied. -/
def tripMarked (cause : TripCause) (s : State) : State :=
  let s := raiseAlert .trip { s with nc.mode := .trip, nc.tripCause := some cause }
  { s with tu.ring := s.tu.ring.map tripRecord, lp.queue := [] }

/-- The trip entry's heads, taken in order. -/
def tripHeads (s : State) : State := (List.finRange 24).foldl tripHead s

theorem tripEntry_eq (cause : TripCause) (s : State) : tripEntry cause s =
    { tripHeads (tripMarked cause s) with
      lp.queue := tripAborts (tripHeads (tripMarked cause s))
      hu.heads := (tripHeads (tripMarked cause s)).hu.heads.map (fun c => { c with timer := none }) } := by
  simp only [tripEntry, tripHeads, tripMarked]

@[simp] theorem tripMarked_record (cause : TripCause) (s : State) (k : Fin 64) :
    (tripMarked cause s).record k = tripRecord (s.record k) := by simp [tripMarked, State.record]

theorem tripAborts_length (s : State) : (tripAborts s).length ≤ 24 := by
  have filtered := List.length_filter_le (fun h => (s.head h).state == .aborting) (List.finRange 24)
  simpa [tripAborts] using filtered

namespace Quiet
variable {C : TripCause → Prop}

theorem tripMarked {cause : TripCause} (found : C cause) {s : State} (working : s.working) :
    Quiet C s (tripMarked cause s) where
  calm := rfl
  grows k := by rw [tripMarked_record]; exact grows_tripRecord _
  kept k h := by simp [tripRecord, h]
  mode := by
    refine .inr ⟨working, rfl, ⟨cause, found, rfl⟩, ?_, fun k loaded => ?_⟩
    · show hasAlert .trip (addAlert .trip s.nc.alerts) = true
      simp [hasAlert_addAlert]
    · rw [tripMarked_record] at loaded ⊢; exact tripRecord_tripped loaded
  raised a h := by
    show hasAlert a (addAlert .trip s.nc.alerts) = true
    simp [hasAlert_addAlert, h]
  others c _ := by
    show hasAlert c.alert (addAlert .trip s.nc.alerts) = _
    cases c <;> simp [hasAlert_addAlert, TripCause.alert]
  queue _ := Nat.zero_le _

theorem unbind (h : Fin 24) (s : State) : Quiet C s (unbind h s) := by
  unfold Machine.unbind
  split
  · exact refl s
  · exact (setHead _ _ _).trans (writeLoaded (grows_bound false) _)

theorem leaveTo (h : Fin 24) (x : HeadState) (s : State) : Quiet C s (leaveTo h x s) := setHead _ _ _

theorem tripHead (s : State) (h : Fin 24) : Quiet C s (tripHead s h) := by
  unfold Machine.tripHead
  split
  · exact (unbind h s).trans (leaveTo _ _ _)
  · exact refl s

/-- The close of the trip entry: the ABORTs queued and the timers disarmed. -/
theorem tripClosed (s : State) : Quiet C s { s with
    lp.queue := tripAborts s, hu.heads := s.hu.heads.map (fun c => { c with timer := none }) } := by
  have short := tripAborts_length s
  exact (queued (fun _ => by omega)).trans (heads _ _)

theorem tripEntry {cause : TripCause} (found : C cause) {s : State} (working : s.working) :
    Quiet C s (tripEntry cause s) := by
  have marked := tripMarked found working
  have taken : Quiet C _ (tripHeads (Machine.tripMarked cause s)) := foldl tripHead _ _
  rw [tripEntry_eq]
  exact (marked.trans taken).trans (tripClosed _)

theorem requestTrip {cause : TripCause} (found : C cause) (s : State) : Quiet C s (requestTrip cause s) := by
  have alert : Quiet C s (Machine.raiseAlert cause.alert s) :=
    raiseAlert (fun c same => by cases c <;> cases cause <;> simp_all [TripCause.alert]) s
  unfold Machine.requestTrip
  split
  next run => exact tripEntry found (.inl run)
  next drain => exact tripEntry found (.inr drain)
  next => exact alert
  next => split
          · exact refl s
          · exact alert
  next => exact refl s

theorem queueCommand (c : HeadCommand) (s : State) : Quiet onlyFull s (queueCommand c s) := by
  have fewer := List.length_filter_le (keepsCommand c) s.lp.queue
  unfold Machine.queueCommand
  dsimp only
  split
  next room => exact queued (fun _ => by simpa using room)
  next => exact (queued (fun _ => by omega)).trans (requestTrip (C := onlyFull) rfl _)

theorem queueKind (h : Fin 24) (k : CommandKind) (s : State) : Quiet onlyFull s (queueKind h k s) := queueCommand _ s

/-! ### Heads and records -/

theorem addCauseTo (l : Link) (c : Cause) (s : State) : Quiet C s (addCauseTo l c s) := writeLoaded (grows_addCause c) s

theorem addBoundCause (h : Fin 24) (c : Cause) (s : State) : Quiet C s (addBoundCause h c s) := by
  unfold Machine.addBoundCause
  split
  · exact addCauseTo _ _ _
  · exact refl s

theorem bindHead (h : Fin 24) {k : Fin 64} {s : State} (loaded : (s.record k).state = .loaded) :
    Quiet C s (bindHead h k s) := (setHead h _ s).trans (setRecord loaded ⟨rfl, fun _ h => h⟩)

theorem abortHead (h : Fin 24) (c : Cause) (s : State) : Quiet onlyFull s (abortHead h c s) :=
  (((addBoundCause h c s).trans (unbind _ _)).trans (leaveTo _ _ _)).trans (queueKind _ _ _)

theorem openCharge (h : Fin 24) (l : Link) (s : State) : Quiet onlyFull s (openCharge h l s) :=
  ((writeLoaded (grows_dosed _ _) s).trans (setHead _ _ _)).trans (queueKind _ _ _)

theorem openIfReady (h : Fin 24) (s : State) : Quiet onlyFull s (openIfReady h s) := by
  unfold Machine.openIfReady
  split
  · split
    · exact openCharge _ _ _
    · exact refl s
  · exact refl s

theorem sendCrimp (h : Fin 24) (s : State) : Quiet onlyFull s (sendCrimp h s) := by
  unfold Machine.sendCrimp
  split
  · split
    · exact (leaveTo _ _ _).trans (queueCommand _ _)
    · exact refl s
  · exact refl s

theorem endCharge (h : Fin 24) (s : State) : Quiet onlyFull s (endCharge h s) :=
  ((leaveTo h .settling s).trans (queueKind _ _ _)).trans (sendCrimp _ _)

/-! ### Arrivals -/

theorem engagementArrival (φ : Fin 24) {k : Fin 64} {s : State} (loaded : (s.record k).state = .loaded) :
    Quiet onlyFull s (engagementArrival φ k s) := by
  unfold Machine.engagementArrival
  dsimp only
  split
  next => exact refl s
  next =>
    have attempted : Quiet onlyFull s (s.setRecord k { s.record k with head := some φ, engaged := true }) :=
      setRecord loaded ⟨rfl, fun _ h => h⟩
    split
    · split
      · exact (attempted.trans (bindHead φ (by simpa using loaded))).trans (queueKind _ _ _)
      · exact attempted.trans (addCauseTo _ _ _)
    · exact attempted

theorem clampWaitArrival (h : Fin 24) (r : Record) (p : Nat) (s : State) :
    Quiet onlyFull s (clampWaitArrival h r p s) := by
  unfold Machine.clampWaitArrival
  dsimp only
  split
  · exact (setHead _ _ _).trans (abortHead _ _ _)
  · exact setHead _ _ _

theorem releaseArrival (h : Fin 24) (k : Fin 64) (s : State) : Quiet onlyFull s (releaseArrival h k s) :=
  (((writeLoaded (grows_released _) s).trans (unbind h _)).trans
    (leaveTo _ _ _)).trans (queueKind _ _ _)

theorem turretArrival (h : Fin 24) (k : Fin 64) (p : Nat) (s : State) : Quiet onlyFull s (turretArrival h k p s) := by
  unfold Machine.turretArrival
  split
  · exact releaseArrival _ _ _
  · cases (s.head h).state with
    | engaged => exact clampWaitArrival _ _ _ _
    | clamped => exact openIfReady _ _
    | charging =>
      dsimp only
      split
      · exact (addCauseTo _ _ _).trans (endCharge _ _)
      · exact refl s
    | settling => exact sendCrimp _ _
    | _ => exact refl s

theorem forwardArrival (φ : Fin 24) (s : State) (p : Nat) : Quiet onlyFull s (forwardArrival φ s p) := by
  unfold Machine.forwardArrival
  dsimp only
  split
  next loaded =>
    split
    · exact engagementArrival φ loaded
    · split
      · exact turretArrival _ _ _ _
      · exact refl s
  next => exact refl s

theorem forwardArrivals (φ : Fin 24) (s : State) : Quiet onlyFull s (forwardArrivals φ s) := foldl (forwardArrival φ) _ s

theorem jogBackArrival (s : State) : Quiet onlyFull s (jogBackArrival s) := by
  unfold Machine.jogBackArrival
  dsimp only
  split
  · split
    · split
      · exact abortHead _ _ _
      · exact refl s
    · exact refl s
  · exact refl s

/-! ### Reports, the charge limit, departures, frame loss and HEAD requests -/

theorem eventMove (h : Fin 24) (k : EventKind) (s : State) : Quiet onlyFull s (eventMove h k s) := by
  cases k with
  | clamped =>
    unfold Machine.eventMove
    dsimp only
    split
    · exact (setHead _ _ _).trans (openIfReady _ _)
    · exact refl s
  | bottom =>
    unfold Machine.eventMove
    dsimp only
    split
    · exact setHead _ _ _
    · exact refl s
  | _ => exact refl s

theorem faultEvent (h : Fin 24) (s : State) : Quiet onlyFull s (faultEvent h s) := by
  have alert : Quiet onlyFull s (Machine.raiseAlert .headFault s) :=
    raiseAlert (fun c same => by cases c <;> simp [TripCause.alert] at same) s
  unfold Machine.faultEvent
  dsimp only
  split
  · exact (((alert.trans (addBoundCause _ _ _)).trans (unbind _ _)).trans (leaveTo _ _ _)).trans (queueKind _ _ _)
  · exact alert.trans (leaveTo _ _ _)

theorem strayEvent (s : State) : Quiet onlyFull s (Machine.raiseAlert .strayEvent s) :=
  raiseAlert (fun c same => by cases c <;> simp [TripCause.alert] at same) s

theorem strayFlow (s : State) : Quiet onlyFull s (Machine.raiseAlert .strayFlow s) :=
  raiseAlert (fun c same => by cases c <;> simp [TripCause.alert] at same) s

theorem grows_capture (k : EventKind) (v : Clock) (r : Record) : r.Grows (r.capture k v) := by
  cases k <;> exact ⟨rfl, fun _ h => h⟩

theorem grows_measure (k : MeasureKind) (v : Word) (r : Record) : r.Grows (r.measure k v) := by
  cases k <;> exact ⟨rfl, fun _ h => h⟩

theorem headEvent (h : Fin 24) (k : EventKind) (lag : Word) (s : State) : Quiet onlyFull s (headEvent h k lag s) := by
  unfold Machine.headEvent
  split
  · exact strayEvent s
  · exact (writeLoaded (grows_capture _ _) s).trans (eventMove _ _ _)

theorem takeEvent (w : Word) (k : Option EventKind) (lag : Word) (s : State) :
    Quiet onlyFull s (takeEvent w k lag s) := by
  unfold Machine.takeEvent
  split
  · exact faultEvent _ _
  · exact headEvent _ _ _ _
  · exact strayEvent s

theorem headFlow (h : Fin 24) (n : Nat) (s : State) : Quiet onlyFull s (headFlow h n s) := by
  unfold Machine.headFlow
  split
  · exact strayFlow s
  next l _ =>
    have added : Quiet onlyFull s (addPulses l n s) := writeLoaded (fun r => grows_pulses _ r) s
    dsimp only
    split
    · split
      · exact (added.trans (setHead _ _ _)).trans (endCharge _ _)
      · exact added.trans (setHead _ _ _)
    · exact added

theorem takeFlow (w : Word) (n : BitVec 8) (s : State) : Quiet onlyFull s (takeFlow w n s) := by
  unfold Machine.takeFlow
  split
  · exact headFlow _ _ _
  · exact strayFlow s

theorem deliverMeasure (k : MeasureKind) (ok : Bool) (slot : Fin 64) (serial v : Word) (s : State) :
    Quiet onlyFull s (deliverMeasure k ok slot serial v s) := by
  unfold Machine.deliverMeasure
  dsimp only
  split
  next named =>
    split
    · exact setRecord named.2 (grows_measure _ _ _)
    · exact refl s
  next =>
    split <;> exact raiseAlert (fun c same => by cases c <;> simp [TripCause.alert] at same) s

theorem takeMeasure (k : Option MeasureKind) (ok : Bool) (slot serial v : Word) (s : State) :
    Quiet onlyFull s (takeMeasure k ok slot serial v s) := by
  unfold Machine.takeMeasure
  split
  · exact deliverMeasure _ _ _ _ _ _
  · exact raiseAlert (fun c same => by cases c <;> simp [TripCause.alert] at same) s

theorem frameLossHead (s : State) (h : Fin 24) : Quiet C s (frameLossHead s h) := by
  unfold Machine.frameLossHead
  split
  · exact addBoundCause _ _ _
  · exact refl s

theorem frameLoss (s : State) : Quiet C s (frameLoss s) := foldl frameLossHead _ s

theorem chargeExpiry (h : Fin 24) (s : State) : Quiet onlyFull s (chargeExpiry h s) :=
  (addBoundCause h .overtime s).trans (endCharge _ _)

theorem nextChargeExpiry (s : State) : Quiet onlyFull s (nextChargeExpiry s) := by
  unfold Machine.nextChargeExpiry
  split
  · exact chargeExpiry _ _
  · exact refl s

theorem commandDeparts (s : State) (c : HeadCommand) : Quiet C s (commandDeparts s c) := by
  unfold Machine.commandDeparts
  split
  · unfold armTimer
    split
    · exact setHead _ _ _
    · exact refl s
  · unfold abortDeparts
    split
    · exact setHead _ _ _
    · exact refl s
  all_goals exact refl s

theorem departCommands (s : State) : Quiet C s (departCommands s) :=
  (queued (fun short => by rw [List.length_drop]; omega)).trans (foldl commandDeparts _ _)

theorem enableHead (s : State) (h : Fin 24) : Quiet C s (enableHead s h) := setHead _ _ _

theorem disableHead (s : State) (h : Fin 24) : Quiet C s (disableHead s h) := setHead _ _ _

theorem stopHead (s : State) (h : Fin 24) : Quiet onlyFull s (stopHead s h) := by
  unfold Machine.stopHead
  dsimp only
  split
  · exact (disableHead s h).trans (abortHead _ _ _)
  · exact disableHead s h

theorem stopHeads (hs : List (Fin 24)) (s : State) : Quiet onlyFull s (stopHeads hs s).2 := by
  induction hs generalizing s with
  | nil => exact refl s
  | cons h hs ih => exact (stopHead s h).trans (ih _)

theorem takeVent {vent : Bool} (found : vent = true → C .vent) (s : State) : Quiet C s (takeVent vent s) := by
  unfold Machine.takeVent
  split
  next set => exact requestTrip (found set) s
  next => exact refl s

end Quiet

end Sys2Proof.Machine
end

-- ==== Proofs: what a request does, and the capacities and ranges of every step ====
section
/-! PROOF. What the rule that owns a request does to the state, said once for every request (R154 to R162); the pieces of an
advance; and from both that no step breaks a capacity or a range (R136, R111, R98, R140, R156, R63, R134). -/

namespace Sys2Proof.Machine

/-! ### Requests -/

/-- The next pointer lies within its window (R157). -/
theorem advance_inside {p : Pointer} (d : Direction) (inside : p.index < windowLength p.window) :
    (p.advance d).index < windowLength (p.advance d).window := by
  have some_word : 0 < windowLength p.window := Nat.zero_lt_of_lt inside
  cases d with
  | up => rw [advance_up inside]; exact Nat.mod_lt _ some_word
  | down => rw [advance_down inside]; exact Nat.mod_lt _ some_word

/-- What a request taken by NC leaves beside its answer, with the conditions under which it does so. -/
inductive Served (s : State) : State → Prop where
  | answered : Served s s
  | counted (n : Nat) (few : s.nc.wakeCount ≤ 2 → n ≤ 2) (wait : s.nc.mode = .waitSync) : Served s { s with nc.wakeCount := n }
  | woken (wait : s.nc.mode = .waitSync) : Served s (enterStandby (restartGap { s with nc.wakeCount := 0 }))
  | pointed (p : Pointer) (d : Direction)
      (inside : s.nc.pointer.index < windowLength s.nc.pointer.window → p.index < windowLength p.window) :
      Served s { s with nc := s.pointed p d }
  | gapLimit (v : Word) (range : gapLimitRange v.toNat = true) : Served s { s with lp.gapLimit := v }
  | trimRows (v : Word) (range : trimRowsRange v.toNat = true) : Served s { s with hu.trimRows := v }
  | station (table : Vector Word 7) (standby : s.nc.mode = .standby) : Served s { s with tu.stations := table }
  | trim (table : Vector TrimRow 16) : Served s { s with hu.trim := table }
  | recipe (e : ParkEntry) (outside : s.rs.scope = none) (free : s.inUse e.slot = 0) :
      Served s { s with rs.words := storeEntry s.rs.words e }
  | parked (e : ParkEntry) (room : s.rs.parkList.length < 16) : Served s { s with rs.parkList := s.rs.parkList ++ [e] }
  | moved {u : State} (stored : Served s u) (same : u.nc.pointer = s.nc.pointer) :
      Served s { u with nc.pointer := s.nextPointer, nc.stale := true }
  | run (idle : s.nc.busy.running = false)
      (found : (s.nc.mode = .standby ∧ s.stationsValid = true) ∨ s.nc.mode = .drain) : Served s { s with nc.mode := .run }
  | drain (found : s.nc.mode = .run) : Served s { s with nc.mode := .drain }
  | standby (found : s.working) (empty : s.nc.ringEmpty = true) : Served s (enterStandby s)
  | clearTrip (found : s.nc.mode = .trip) (empty : s.nc.ringEmpty = true) :
      Served s (enterStandby { s with nc.tripCause := none })
  | enabled (hs : List (Fin 24)) : Served s (hs.foldl enableHead s)
  | disabled (hs : List (Fin 24)) : Served s (hs.foldl disableHead s)
  | stopped (hs : List (Fin 24)) : Served s (stopHeads hs s).2
  | sampled (q : SampleRequest) (room : s.vu.samples.length < 4) : Served s { s with vu.samples := s.vu.samples ++ [q] }
  | tallies : Served s (takeTallyClear s).2
  | scopeOpened : Served s { s with rs.scope := some s.rs.parkList.length }
  | scopeClosed : Served s (applyParked (fun _ => true) { s with rs.scope := none })
  | abandoned (m : Nat) : Served s { s with rs.parkList := s.rs.parkList.take m, rs.scope := none }
  | unparked (offMark : s.rs.scope ≠ some s.rs.parkList.length) : Served s { s with rs.parkList := s.rs.parkList.dropLast }
  | alerts (x : AlertSet) : Served s { s with nc.alerts := x }
  | clearing (target : ClearTarget) (awake : s.nc.mode ≠ .waitSync) (legal : target = .recipe → s.nc.mode = .standby) :
      Served s { s with nc.busy := .clearWindow target s.clock }
  | resetting (found : s.nc.mode = .standby ∨ s.nc.mode = .trip) : Served s { s with nc.busy := .resetNode s.clock }

theorem wakeSync_served {s : State} (wait : s.nc.mode = .waitSync) : Served s (wakeSync s).2 := by
  unfold wakeSync
  split
  · exact .woken wait
  · exact .counted _ (by omega) wait

theorem takePoint_served (w i d : Word) (s : State) : Served s (takePoint w i d s).2 := by
  unfold takePoint
  split
  · exact .answered
  next win _ =>
    split
    next inside =>
      split
      · exact .answered
      next dir _ =>
        dsimp only
        rw [setPointer_eq]
        exact .pointed ⟨win, i.toNat⟩ dir (fun _ => inside)
    next => exact .answered

theorem takeRead_served (s : State) : Served s (takeRead s).2 := by
  rw [takeRead_eq]
  exact .pointed _ _ (advance_inside s.nc.direction)

/-- A store at a word leaves the pointer, which the WRITE then moves on. -/
theorem writeWord_served (p : Pointer) (v : Word) (s : State) :
    Served s (writeWord p v s).2 ∧ (writeWord p v s).2.nc.pointer = s.nc.pointer := by
  obtain ⟨w, i⟩ := p
  unfold writeWord
  split
  · unfold writeNode
    split
    · split
      next range => exact ⟨.gapLimit v range, rfl⟩
      next => exact ⟨.answered, rfl⟩
    · split
      · split
        next range => exact ⟨.trimRows v range, rfl⟩
        next => exact ⟨.answered, rfl⟩
      · exact ⟨.answered, rfl⟩
  · unfold writeStations
    split
    next standby => exact ⟨.station _ standby, rfl⟩
    next => exact ⟨.answered, rfl⟩
  · unfold writeTrim
    dsimp only
    split
    · exact ⟨.trim _, rfl⟩
    · split
      · exact ⟨.trim _, rfl⟩
      · exact ⟨.answered, rfl⟩
  · unfold writeRecipe
    dsimp only
    split
    · exact ⟨.answered, rfl⟩
    · split
      next direct => exact ⟨.recipe ⟨_, _, v⟩ direct.1 direct.2.1, rfl⟩
      next =>
        split
        · exact ⟨.alerts _, rfl⟩
        next room => exact ⟨.parked _ (by simpa using room), rfl⟩
  all_goals exact ⟨.answered, rfl⟩

theorem takeWrite_served (v : Word) (s : State) : Served s (takeWrite v s).2 := by
  obtain ⟨stored, same⟩ := writeWord_served s.nc.pointer v s
  unfold takeWrite
  dsimp only
  split
  · exact .moved stored same
  · exact stored

theorem takeMode_served {s : State} (idle : s.nc.busy.running = false) (asked : Option ModeAsked) :
    Served s (takeMode asked s).2 := by
  unfold takeMode
  split
  · exact .answered
  · unfold takeModeRun
    split
    next found =>
      split
      next valid => exact .run idle (.inl ⟨found, valid⟩)
      next => exact .answered
    next => exact .answered
    next found => exact .run idle (.inr found)
    next => exact .answered
    next => exact .answered
  · unfold takeModeDrain
    split
    next found => exact .drain found
    next => exact .answered
  · unfold takeModeStandby
    split
    next found =>
      split
      next empty => exact .standby (.inl found) empty
      next => exact .answered
    next found =>
      split
      next empty => exact .standby (.inr found) empty
      next => exact .answered
    all_goals exact .answered

theorem takeClearTrip_served (s : State) : Served s (takeClearTrip s).2 := by
  unfold takeClearTrip
  split
  next found =>
    split
    next empty => exact .clearTrip found empty
    next => exact .answered
  next => exact .answered

theorem takeSample_served (k a t : Word) (s : State) : Served s (takeSample k a t s).2 := by
  unfold takeSample
  split
  · exact .answered
  · split
    next room => exact .sampled _ room
    next => exact .answered

theorem takeScopeOpen_served (s : State) : Served s (takeScopeOpen s).2 := by
  unfold takeScopeOpen
  split
  · exact .answered
  · split
    · exact .answered
    · exact .scopeOpened

theorem takeScopeClose_served (s : State) : Served s (takeScopeClose s).2 := by
  unfold takeScopeClose
  split
  · exact .scopeClosed
  · exact .answered

theorem takeScopeAbandon_served (s : State) : Served s (takeScopeAbandon s).2 := by
  unfold takeScopeAbandon
  split
  · exact .abandoned _
  · exact .answered

theorem takeUnpark_served (s : State) : Served s (takeUnpark s).2 := by
  unfold takeUnpark
  split
  · exact .answered
  · split
    · exact .answered
    next offMark => exact .unparked offMark

theorem takeClearAlerts_served (kinds : Word) (s : State) : Served s (takeClearAlerts kinds s).2 := by
  unfold takeClearAlerts
  split
  · exact .answered
  · exact .alerts _

theorem takeClearWindow_served (w : Word) {s : State} (awake : s.nc.mode ≠ .waitSync) :
    Served s (takeClearWindow w s).2 := by
  unfold takeClearWindow
  split
  · exact .answered
  · split
    · exact .answered
    · split
      · exact .answered
      next legal => exact .clearing _ awake (fun recipe => by simpa [recipe] using legal)

theorem takeResetNode_served (s : State) : Served s (takeResetNode s).2 := by
  unfold takeResetNode
  split
  next found => exact .resetting found
  next => exact .answered

theorem takeHeads_served (k a b : Word) (s : State) : Served s (takeHeadEnable k a b s).2 ∧
    Served s (takeHeadDisable k a b s).2 ∧ Served s (takeHeadStop k a b s).2 := by
  unfold takeHeadEnable takeHeadDisable takeHeadStop
  cases selectHeads k a b with
  | none => exact ⟨.answered, .answered, .answered⟩
  | some hs => exact ⟨.enabled hs, .disabled hs, .stopped hs⟩

theorem takeOwned_served {s : State} (awake : s.nc.mode ≠ .waitSync) (idle : s.nc.busy.running = false) (q : Request) :
    Served s (takeOwned q s).2 := by
  cases q with
  | sync => exact .answered
  | status => exact .answered
  | point w i d => exact takePoint_served w i d s
  | read => exact takeRead_served s
  | write v => exact takeWrite_served v s
  | mode asked => exact takeMode_served idle asked
  | headEnable k a b => exact (takeHeads_served k a b s).1
  | headDisable k a b => exact (takeHeads_served k a b s).2.1
  | headStop k a b => exact (takeHeads_served k a b s).2.2
  | sample k a t => exact takeSample_served k a t s
  | scopeOpen => exact takeScopeOpen_served s
  | scopeClose => exact takeScopeClose_served s
  | scopeAbandon => exact takeScopeAbandon_served s
  | unpark => exact takeUnpark_served s
  | clearAlerts k => exact takeClearAlerts_served k s
  | clearTrip => exact takeClearTrip_served s
  | clearWindow w => exact takeClearWindow_served w awake
  | tallyClear => exact .tallies
  | resetNode => exact takeResetNode_served s
  | unknown => exact .answered

/-- What a request does, in every mode. -/
theorem takeRequest_served (q : Request) (s : State) : Served s (takeRequest q s).2 := by
  by_cases wait : s.nc.mode = .waitSync
  · by_cases sync : q = .sync
    · rw [sync, takeRequest_wake wait]; exact wakeSync_served wait
    · rw [takeRequest_notAwake wait sync]; exact .counted 0 (fun _ => Nat.zero_le _) wait
  · by_cases own : s.nc.busy.running = false ∨ q = .status
    · rw [takeRequest_owned wait own]
      rcases own with idle | rfl
      · exact takeOwned_served wait idle q
      · exact .answered
    · rw [not_or] at own
      rw [takeRequest_busy wait (by simpa using own.1) own.2]
      exact .answered

/-! ### The pieces of an advance -/

/-- A property that every piece of an advance keeps. -/
structure Advancing (P : State → Prop) : Prop where
  cleared : ∀ s k, P s → P (s.setRecord k Record.cleared)
  origin : ∀ s o, P s → P { s with tu.origin := o }
  held : ∀ s a, P s → P (raiseAlert a s)
  fed : ∀ s φ c p, s.nc.mode = .run → P s → P (feed φ c p s)
  arrival : ∀ s φ p, P s → P (forwardArrival φ s p)
  verdict : ∀ s k, (s.record k).state = .loaded → P s → P (giveVerdict k s)
  jogBack : ∀ s, P s → P (jogBackArrival s)
  backOut : ∀ s, P s → P (backOut s)
  reported : ∀ s, P s → P (reportRing s)
  drained : ∀ s, s.nc.mode = .drain → P s → P (enterStandby s)

namespace Advancing
variable {P : State → Prop}

theorem admission (adv : Advancing P) (φ : Fin 24) {s : State} (p : P s) : P (admission φ s).2 := by
  unfold Machine.admission
  split
  next run =>
    split
    next alert _ =>
      cases alert with
      | none => exact p
      | some a => exact adv.held s a p
    next => exact adv.fed s φ _ _ run p
  next => exact p

theorem arrivals (adv : Advancing P) (φ : Fin 24) {s : State} (p : P s) : P (forwardArrivals φ s) := by
  unfold forwardArrivals
  generalize s.turretPositions = ps
  induction ps generalizing s with
  | nil => exact p
  | cons x xs ih => exact ih (adv.arrival s φ x p)

theorem gate (adv : Advancing P) {s : State} (p : P s) : P (gateArrival s) := by
  unfold gateArrival
  split
  · split
    next loaded => exact adv.verdict s _ loaded p
    next => exact p
  · exact p

theorem endDrain (adv : Advancing P) {s : State} (p : P s) : P (endDrain s) := by
  unfold Machine.endDrain
  split
  next found => exact adv.drained s found.1 p
  next => exact p

theorem advance (adv : Advancing P) (a : Advance) (φ : Fin 24) {s : State} (p : P s) : P (takeAdvance a φ s).2 := by
  have moved : P (match a with
      | .forward => forwardAdvance φ s | .reverse => reverseAdvance s | .dwell => dwellAdvance s).2 := by
    cases a with
    | forward => exact adv.gate (adv.arrivals φ (adv.admission φ (adv.origin _ _ (adv.cleared s _ p))))
    | reverse => exact adv.jogBack _ (adv.origin _ _ (adv.backOut s p))
    | dwell => exact p
  exact adv.endDrain (adv.reported _ moved)

end Advancing

/-! ### The Recipe Store (R113, R114) -/

/-- The Park List and the mark of the scope within their bounds (R111, R117). -/
structure RecipeStore.Parked (rs : RecipeStore) : Prop where
  room : rs.parkList.length ≤ 16
  mark : ∀ m, rs.scope = some m → m ≤ rs.parkList.length

/-- An application only removes entries, and the mark falls by no fewer than it has below it. -/
theorem RecipeStore.Parked.apply {rs : RecipeStore} (p : rs.Parked) (slots : Fin 8 → Bool) :
    (rs.applyParked slots).Parked := by
  have split_outside : ((rs.parkList.take rs.outside).filter (rs.applies slots)).length +
      ((rs.parkList.take rs.outside).filter (fun e => !rs.applies slots e)).length =
        (rs.parkList.take rs.outside).length := by
    rw [← List.length_eq_length_filter_add]
  have short : (rs.parkList.take rs.outside).length + (rs.parkList.drop rs.outside).length = rs.parkList.length := by
    rw [← List.length_append, List.take_append_drop]
  have room := p.room
  constructor
  · simp only [RecipeStore.applyParked, List.length_append]
    omega
  · intro m marked
    simp only [RecipeStore.applyParked, Option.map_eq_some_iff] at marked
    obtain ⟨m', open_, rfl⟩ := marked
    have below : (rs.parkList.take rs.outside).length = m' := by
      have inside := p.mark m' open_
      simp [RecipeStore.outside, open_, inside]
    simp only [RecipeStore.applyParked, List.length_append]
    omega

/-- The fall of an in-use count, in the form the claims use. -/
theorem lowerInUse_eq (k : Fin 8) (s : State) : lowerInUse k s = { s with rs := s.rs.lowered k } := by
  have fallen : ({ s with rs.inUse := s.rs.inUse.set k (s.inUse k - 1) } : State).inUse k = s.rs.inUse[k] - 1 := by
    simp [State.inUse]
  unfold lowerInUse RecipeStore.lowered
  dsimp only
  rw [fallen]
  by_cases last : s.rs.inUse[k] ≤ 1
  · rw [if_pos (by omega), if_pos last]; rfl
  · rw [if_neg (by omega), if_neg last]; rfl

theorem RecipeStore.Parked.lowered {rs : RecipeStore} (p : rs.Parked) (k : Fin 8) : (rs.lowered k).Parked := by
  have fallen : ({ rs with inUse := rs.inUse.set k (rs.inUse[k] - 1) } : RecipeStore).Parked := ⟨p.room, p.mark⟩
  unfold RecipeStore.lowered
  dsimp only
  split
  · exact fallen.apply _
  · exact fallen

/-- The record of a can after its verdict (R95). -/
def State.judged (s : State) (k : Fin 64) : Record :=
  { s.record k with
    state := .final
    causes := bandCauses s (s.record k)
    verdict := some (s.verdictFor k)
    sample := if s.verdictFor k = .reject then none else (s.record k).sample }

/-- The verdict in steps: the record, the tally, the in-use count, and the request that a REJECT returns. -/
theorem giveVerdict_eq (k : Fin 64) (s : State) : giveVerdict k s =
    rearmIf (if s.verdictFor k = .reject then (s.record k).sample else none)
      (lowerInUse (s.record k).recipe
        (onTally (s.record k).recipe (·.count (s.verdictFor k)) (s.setRecord k (s.judged k)))) := by
  unfold giveVerdict State.judged
  dsimp only
  split <;> rfl

theorem rearm_cases (q : SampleRequest) (s : State) :
    (s.vu.samples.length < 4 ∧ rearm q s = { s with vu.samples := q :: s.vu.samples }) ∨
      (4 ≤ s.vu.samples.length ∧ rearm q s = raiseAlert .sampleLost s) := by
  unfold rearm
  by_cases room : s.vu.samples.length < 4
  · exact .inl ⟨room, by simp [room]⟩
  · exact .inr ⟨by omega, by simp [room]⟩

/-! ### Capacities and ranges -/

namespace State.Bounded

theorem parked {s : State} (b : s.Bounded) : s.rs.Parked := ⟨b.park, b.mark⟩

theorem quiet {C : TripCause → Prop} {s t : State} (b : s.Bounded) (q : Quiet C s t) : t.Bounded := by
  obtain ⟨fixed, vu, rs, -, -, -, -, -, -, wakeCount, -, -, pointer, -⟩ := q.parts
  obtain ⟨-, -, -, -, -, -, gapLimit, -, -, -, trimRows⟩ := fixed_parts fixed
  exact ⟨q.queue b.queue, rs ▸ b.park, rs ▸ b.mark, vu ▸ b.samples, wakeCount ▸ b.wake, pointer ▸ b.pointer,
    trimRows ▸ b.trimRows, gapLimit ▸ b.gapLimit⟩

theorem store {s : State} (b : s.Bounded) {rs : RecipeStore} (p : rs.Parked) : ({ s with rs := rs } : State).Bounded :=
  ⟨b.queue, p.room, p.mark, b.samples, b.wake, b.pointer, b.trimRows, b.gapLimit⟩

theorem ring {s : State} (b : s.Bounded) (ring : Vector Record 64) (stations : Vector Word 7) (o : Fin 64) (n : Word) :
    ({ s with tu.ring := ring, tu.origin := o, tu.nextSerial := n, tu.stations := stations } : State).Bounded :=
  ⟨b.queue, b.park, b.mark, b.samples, b.wake, b.pointer, b.trimRows, b.gapLimit⟩

theorem setRecord {s : State} (b : s.Bounded) (k : Fin 64) (r : Record) : (s.setRecord k r).Bounded :=
  b.ring (s.tu.ring.set k r) s.tu.stations s.tu.origin s.tu.nextSerial

theorem sampled {s : State} (b : s.Bounded) {qs : List SampleRequest} (few : qs.length ≤ 4) (ts : Vector Tally 8) :
    ({ s with vu.samples := qs, vu.tallies := ts } : State).Bounded :=
  ⟨b.queue, b.park, b.mark, few, b.wake, b.pointer, b.trimRows, b.gapLimit⟩

theorem onTally {s : State} (b : s.Bounded) (k : Fin 8) (f : Tally → Tally) : (onTally k f s).Bounded :=
  b.sampled b.samples _

theorem alerts {s : State} (b : s.Bounded) (x : AlertSet) : ({ s with nc.alerts := x } : State).Bounded :=
  ⟨b.queue, b.park, b.mark, b.samples, b.wake, b.pointer, b.trimRows, b.gapLimit⟩

theorem standby {s : State} (b : s.Bounded) : (enterStandby s).Bounded := by
  have p := b.parked.apply (fun _ => true)
  exact ⟨b.queue, p.room, p.mark, b.samples, b.wake, b.pointer, b.trimRows, b.gapLimit⟩

theorem lowered {s : State} (b : s.Bounded) (k : Fin 8) : (lowerInUse k s).Bounded := by
  rw [lowerInUse_eq]
  exact b.store (b.parked.lowered k)

theorem rearmed {s : State} (b : s.Bounded) (q : Option SampleRequest) : (rearmIf q s).Bounded := by
  cases q with
  | none => exact b
  | some q =>
    show (rearm q s).Bounded
    rcases rearm_cases q s with ⟨room, e⟩ | ⟨-, e⟩
    · rw [e]; exact b.sampled (qs := q :: s.vu.samples) room s.vu.tallies
    · rw [e]; exact b.alerts _

theorem fed {s : State} (b : s.Bounded) (φ : Fin 24) (c : Candidate) (p : Fin 16) : (feed φ c p s).Bounded := by
  have fewer := List.length_eraseP_le (l := s.vu.samples)
    (p := fun q => q.kind.isFor (recipeOf p) (s.predictedHead φ))
  exact ⟨b.queue, b.park, b.mark, fewer.trans b.samples, b.wake, b.pointer, b.trimRows, b.gapLimit⟩

theorem advancing : Advancing State.Bounded where
  cleared _ k b := b.setRecord k _
  origin s o b := b.ring s.tu.ring s.tu.stations o s.tu.nextSerial
  held _ _ b := b.alerts _
  fed _ φ c p _ b := b.fed φ c p
  arrival s φ p b := b.quiet (Quiet.forwardArrival φ s p)
  verdict s k _ b := by
    rw [giveVerdict_eq]
    exact (((b.setRecord k _).onTally _ _).lowered _).rearmed _
  jogBack s b := b.quiet (Quiet.jogBackArrival s)
  backOut s b := by
    unfold Machine.backOut
    dsimp only
    split
    · exact b
    · exact b.setRecord _ _
    · exact (((b.setRecord _ _).onTally _ _).lowered _).rearmed _
  reported _ b := ⟨b.queue, b.park, b.mark, b.samples, b.wake, b.pointer, b.trimRows, b.gapLimit⟩
  drained _ _ b := b.standby

theorem served {s t : State} (b : s.Bounded) (request : Served s t) : t.Bounded := by
  induction request with
  | answered => exact b
  | counted n few => exact ⟨b.queue, b.park, b.mark, b.samples, few b.wake, b.pointer, b.trimRows, b.gapLimit⟩
  | woken =>
    exact standby (s := restartGap { s with nc.wakeCount := 0 })
      ⟨b.queue, b.park, b.mark, b.samples, Nat.zero_le _, b.pointer, b.trimRows, b.gapLimit⟩
  | pointed p d inside =>
    exact ⟨b.queue, b.park, b.mark, b.samples, b.wake, inside b.pointer, b.trimRows, b.gapLimit⟩
  | gapLimit v range =>
    exact ⟨b.queue, b.park, b.mark, b.samples, b.wake, b.pointer, b.trimRows, by simpa [gapLimitRange] using range⟩
  | trimRows v range =>
    exact ⟨b.queue, b.park, b.mark, b.samples, b.wake, b.pointer, by simpa [trimRowsRange] using range, b.gapLimit⟩
  | station table => exact b.ring s.tu.ring table s.tu.origin s.tu.nextSerial
  | trim => exact ⟨b.queue, b.park, b.mark, b.samples, b.wake, b.pointer, b.trimRows, b.gapLimit⟩
  | recipe => exact b.store ⟨b.park, b.mark⟩
  | parked e room =>
    refine b.store (rs := { s.rs with parkList := s.rs.parkList ++ [e] }) ⟨?_, fun m marked => ?_⟩
    · simpa using room
    · exact (b.mark m marked).trans (by simp)
  | moved _ same ih =>
    exact ⟨ih.queue, ih.park, ih.mark, ih.samples, ih.wake, advance_inside s.nc.direction b.pointer, ih.trimRows,
      ih.gapLimit⟩
  | run => exact ⟨b.queue, b.park, b.mark, b.samples, b.wake, b.pointer, b.trimRows, b.gapLimit⟩
  | drain => exact ⟨b.queue, b.park, b.mark, b.samples, b.wake, b.pointer, b.trimRows, b.gapLimit⟩
  | standby => exact b.standby
  | clearTrip =>
    exact standby (s := { s with nc.tripCause := none })
      ⟨b.queue, b.park, b.mark, b.samples, b.wake, b.pointer, b.trimRows, b.gapLimit⟩
  | enabled hs => exact b.quiet (Quiet.foldl (C := onlyFull) Quiet.enableHead hs s)
  | disabled hs => exact b.quiet (Quiet.foldl (C := onlyFull) Quiet.disableHead hs s)
  | stopped hs => exact b.quiet (Quiet.stopHeads hs s)
  | sampled q room => exact b.sampled (by simpa using room) s.vu.tallies
  | tallies => exact b.sampled b.samples _
  | scopeOpened => exact b.store ⟨b.park, fun m marked => by cases marked; exact Nat.le_refl _⟩
  | scopeClosed =>
    have closed : ({ s.rs with scope := none } : RecipeStore).Parked := ⟨b.park, fun m marked => by cases marked⟩
    exact b.store (closed.apply _)
  | abandoned m =>
    refine b.store (rs := { s.rs with parkList := s.rs.parkList.take m, scope := none })
      ⟨(List.length_take_le' m _).trans b.park, fun m marked => by cases marked⟩
  | unparked offMark =>
    refine b.store (rs := { s.rs with parkList := s.rs.parkList.dropLast }) ⟨?_, fun m marked => ?_⟩
    · have room := b.park
      simp only [List.length_dropLast]
      omega
    · have below := b.mark m marked
      have off : m ≠ s.rs.parkList.length := by rintro rfl; exact offMark marked
      simp only [List.length_dropLast]
      omega
  | alerts x => exact b.alerts x
  | clearing => exact ⟨b.queue, b.park, b.mark, b.samples, b.wake, b.pointer, b.trimRows, b.gapLimit⟩
  | resetting => exact ⟨b.queue, b.park, b.mark, b.samples, b.wake, b.pointer, b.trimRows, b.gapLimit⟩

theorem taken {s : State} (b : s.Bounded) (r : Report) : (takeReport s r).Bounded := by
  cases r with
  | infeed => exact ⟨b.queue, b.park, b.mark, b.samples, b.wake, b.pointer, b.trimRows, b.gapLimit⟩
  | event h k lag => exact b.quiet (Quiet.takeEvent h k lag s)
  | flow h n => exact b.quiet (Quiet.takeFlow h n s)
  | measure k ok slot serial v => exact b.quiet (Quiet.takeMeasure k ok slot serial v s)

theorem cleared {s : State} (b : s.Bounded) : (completeClear s).Bounded := by
  unfold completeClear
  split
  next target _ _ =>
    split
    · cases target with
      | sample => exact ⟨b.queue, b.park, b.mark, Nat.zero_le _, b.wake, b.pointer, b.trimRows, b.gapLimit⟩
      | _ => exact ⟨b.queue, b.park, b.mark, b.samples, b.wake, b.pointer, b.trimRows, b.gapLimit⟩
    · exact b
  all_goals exact b

theorem warmed {s : State} (b : s.Bounded) : (completeReset s).Bounded := by
  unfold completeReset
  split
  · split
    · rw [warmReset_eq]
      exact ⟨Nat.zero_le _, Nat.zero_le _, (fun _ marked => nomatch marked), Nat.zero_le _, Nat.zero_le _, (by decide : 0 < 15),
        b.trimRows, b.gapLimit⟩
    · exact b
  all_goals exact b

theorem reset : State.reset.Bounded := .of_check (by decide +kernel)

theorem released {s : State} (b : s.Bounded) (straps : BitVec 6) : (releasePin straps s).Bounded := by
  unfold releasePin
  split
  · exact ⟨b.queue, b.park, b.mark, b.samples, b.wake, b.pointer, b.trimRows, b.gapLimit⟩
  · exact b

theorem invariant : Invariant State.Bounded where
  link _ _ _ _ _ _ _ _ _ b := ⟨b.queue, b.park, b.mark, b.samples, b.wake, b.pointer, b.trimRows, b.gapLimit⟩
  trip _ s b := b.quiet (Quiet.requestTrip (C := fun _ => True) trivial s)
  advance a φ _ b := advancing.advance a φ b
  report _ r b := b.taken r
  loss _ b := (b.alerts _).quiet (Quiet.frameLoss (C := onlyFull) _)
  request q s _ b := b.served (takeRequest_served q s)
  departs s b := b.quiet (Quiet.departCommands (C := onlyFull) s)
  charge s b := b.quiet (Quiet.nextChargeExpiry s)
  clear _ b := b.cleared
  reset _ b := b.warmed
  cold _ _ := ⟨reset.queue, reset.park, reset.mark, reset.samples, reset.wake, reset.pointer, reset.trimRows,
    reset.gapLimit⟩
  release straps _ b := b.released straps

end State.Bounded

/-- Settles O55: the capacities and ranges are an invariant of every part of an event. -/
theorem stepKeepsBounds : Obligations.StepKeepsBounds :=
  fun _ _ bounded taken => State.Bounded.invariant.step taken bounded

end Sys2Proof.Machine
end

-- ==== Proofs: the rules of the modes, the records and the head contexts ====
section
/-! PROOF. Every step keeps the rules of the modes (R140, R149, R151, R160), of the records (R6, R8, R94) and the ties of each
head context (R36). -/

namespace Sys2Proof.Machine

/-! ### The modes -/

namespace State.ModesLegal

/-- The rules read the pin, four fields of NC and the causes of the LOADED records alone. -/
theorem of_same {s t : State} (m : s.ModesLegal) (pin : t.coldResetPin = s.coldResetPin) (mode : t.nc.mode = s.nc.mode)
    (busy : t.nc.busy = s.nc.busy) (cause : t.nc.tripCause = s.nc.tripCause)
    (tripped : s.nc.mode = .trip → ∀ k, (t.record k).state = .loaded → hasCause .tripped (t.record k).causes = true) :
    t.ModesLegal where
  held := by rw [pin, mode]; exact m.held
  asleep := by rw [mode, busy]; exact m.asleep
  cause := by rw [mode, cause]; exact m.cause
  tripped := by rw [mode]; exact tripped
  clearing := by rw [busy, mode]; exact m.clearing
  resetting := by rw [busy, mode]; exact m.resetting

theorem same_ring {s t : State} (m : s.ModesLegal) (pin : t.coldResetPin = s.coldResetPin) (nc : t.nc.mode = s.nc.mode)
    (busy : t.nc.busy = s.nc.busy) (cause : t.nc.tripCause = s.nc.tripCause) (ring : t.tu.ring = s.tu.ring) :
    t.ModesLegal := by
  refine m.of_same pin nc busy cause fun trip k => ?_
  simpa only [State.record, ring] using m.tripped trip k

theorem quiet {C : TripCause → Prop} {s t : State} (m : s.ModesLegal) (q : Quiet C s t) : t.ModesLegal := by
  rcases q.mode with ⟨mode, cause⟩ | ⟨working, trip, ⟨c, -, cause⟩, -, tripped⟩
  · refine m.of_same q.coldResetPin mode q.busy cause fun trip k loaded => ?_
    exact (q.grows k).causes _ (m.tripped trip k (q.state k ▸ loaded))
  · have notWaiting : s.nc.mode ≠ .waitSync := fun e => by simp [State.working, e] at working
    have notStandby : s.nc.mode ≠ .standby := fun e => by simp [State.working, e] at working
    exact
      { held := fun pin => absurd (m.held (q.coldResetPin ▸ pin)) notWaiting
        asleep := fun wait => by simp [trip] at wait
        cause := by simp [cause, trip]
        tripped := fun _ => tripped
        clearing := fun since clearing => absurd (m.clearing since (q.busy ▸ clearing)) notStandby
        resetting := fun _ _ => .inr trip }

theorem setRecord {s : State} (m : s.ModesLegal) {k : Fin 64} {r : Record} (other : r.state ≠ .loaded) :
    (s.setRecord k r).ModesLegal := by
  refine m.of_same rfl rfl rfl rfl fun trip j loaded => ?_
  rw [record_setRecord] at loaded ⊢
  split at loaded
  · exact absurd loaded other
  next ne => rw [if_neg ne]; exact m.tripped trip j loaded

theorem standby {s : State} (pin : s.coldResetPin = false) (cause : s.nc.tripCause = none) :
    (enterStandby s).ModesLegal where
  held pinned := by rw [show (enterStandby s).coldResetPin = s.coldResetPin from rfl, pin] at pinned; cases pinned
  asleep wait := nomatch (show Mode.standby = .waitSync from wait)
  cause := by simp [enterStandby, cause]
  tripped trip := nomatch (show Mode.standby = .trip from trip)
  clearing _ _ := rfl
  resetting _ _ := .inl rfl

theorem pin_of_awake {s : State} (m : s.ModesLegal) (awake : s.nc.mode ≠ .waitSync) : s.coldResetPin = false := by
  cases pin : s.coldResetPin with
  | false => rfl
  | true => exact absurd (m.held pin) awake

theorem cause_none {s : State} (m : s.ModesLegal) (untripped : s.nc.mode ≠ .trip) : s.nc.tripCause = none := by
  cases cause : s.nc.tripCause with
  | none => rfl
  | some c => exact absurd (m.cause.mp (by simp [cause])) untripped

theorem lowered {s : State} (m : s.ModesLegal) (k : Fin 8) : (lowerInUse k s).ModesLegal := by
  rw [lowerInUse_eq]
  exact m.same_ring rfl rfl rfl rfl rfl

theorem rearmed {s : State} (m : s.ModesLegal) (q : Option SampleRequest) : (rearmIf q s).ModesLegal := by
  cases q with
  | none => exact m
  | some q =>
    show (rearm q s).ModesLegal
    rcases rearm_cases q s with ⟨-, e⟩ | ⟨-, e⟩
    · rw [e]; exact m.same_ring rfl rfl rfl rfl rfl
    · rw [e]; exact m.same_ring rfl rfl rfl rfl rfl

theorem onTally {s : State} (m : s.ModesLegal) (k : Fin 8) (f : Tally → Tally) : (onTally k f s).ModesLegal :=
  m.same_ring rfl rfl rfl rfl rfl

theorem advancing : Advancing State.ModesLegal where
  cleared _ _ m := m.setRecord (by decide)
  origin _ _ m := m.same_ring rfl rfl rfl rfl rfl
  held _ _ m := m.same_ring rfl rfl rfl rfl rfl
  fed _ _ _ _ run m := m.of_same rfl rfl rfl rfl (fun trip => by simp [run] at trip)
  arrival s φ p m := m.quiet (Quiet.forwardArrival φ s p)
  verdict s k _ m := by
    rw [giveVerdict_eq]
    exact (((m.setRecord (k := k) (r := s.judged k) (by simp [State.judged])).onTally _ _).lowered _).rearmed _
  jogBack s m := m.quiet (Quiet.jogBackArrival s)
  backOut s m := by
    unfold Machine.backOut
    dsimp only
    split
    · exact m
    · exact m.setRecord (by decide)
    · exact (((m.setRecord (by decide)).onTally _ _).lowered _).rearmed _
  reported _ m := m.same_ring rfl rfl rfl rfl rfl
  drained s drain m :=
    standby (m.pin_of_awake (by simp [drain])) (m.cause_none (by simp [drain]))

theorem served {s t : State} (m : s.ModesLegal) (pin : s.coldResetPin = false) (request : Served s t) : t.ModesLegal := by
  have pinned {u : Prop} : s.coldResetPin = true → u := fun e => by rw [pin] at e; cases e
  induction request with
  | woken wait =>
    exact standby (s := restartGap { s with nc.wakeCount := 0 }) pin (m.cause_none (by simp [wait]))
  | moved _ _ ih => exact ih.same_ring rfl rfl rfl rfl rfl
  | run idle found =>
    have untripped : s.nc.mode ≠ .trip := by rcases found with ⟨e, -⟩ | e <;> simp [e]
    have none := m.cause_none untripped
    exact
      { held := pinned
        asleep := fun wait => nomatch (show Mode.run = .waitSync from wait)
        cause := by simp [none]
        tripped := fun trip => nomatch (show Mode.run = .trip from trip)
        clearing := fun since busy => by
          have busy : s.nc.busy = _ := busy
          simp [busy, BusyOp.running] at idle
        resetting := fun since busy => by
          have busy : s.nc.busy = _ := busy
          simp [busy, BusyOp.running] at idle }
  | drain found =>
    have none := m.cause_none (by simp [found])
    exact
      { held := pinned
        asleep := fun wait => nomatch (show Mode.drain = .waitSync from wait)
        cause := by simp [none]
        tripped := fun trip => nomatch (show Mode.drain = .trip from trip)
        clearing := fun since busy => by have := m.clearing since busy; simp [found] at this
        resetting := fun since busy => by have := m.resetting since busy; simp [found] at this }
  | standby found =>
    exact ModesLegal.standby pin (m.cause_none (fun e => by simp [State.working, e] at found))
  | clearTrip found =>
    exact
      { held := pinned
        asleep := fun wait => nomatch (show Mode.standby = .waitSync from wait)
        cause := by simp [enterStandby]
        tripped := fun trip => nomatch (show Mode.standby = .trip from trip)
        clearing := fun _ _ => rfl
        resetting := fun _ _ => .inl rfl }
  | enabled hs => exact m.quiet (Quiet.foldl (C := onlyFull) Quiet.enableHead hs s)
  | disabled hs => exact m.quiet (Quiet.foldl (C := onlyFull) Quiet.disableHead hs s)
  | stopped hs => exact m.quiet (Quiet.stopHeads hs s)
  | clearing target awake legal =>
    exact
      { held := m.held
        asleep := fun wait => absurd wait awake
        cause := m.cause
        tripped := m.tripped
        clearing := fun _ busy => by cases busy; exact legal rfl
        resetting := fun _ busy => nomatch busy }
  | resetting found =>
    exact
      { held := m.held
        asleep := fun wait => by rcases found with e | e <;> exact nomatch (wait.symm.trans e)
        cause := m.cause
        tripped := m.tripped
        clearing := fun _ busy => nomatch busy
        resetting := fun _ _ => found }
  | answered => exact m
  | _ => exact m.same_ring rfl rfl rfl rfl rfl

theorem taken {s : State} (m : s.ModesLegal) (r : Report) : (takeReport s r).ModesLegal := by
  cases r with
  | infeed => exact m.same_ring rfl rfl rfl rfl rfl
  | event h k lag => exact m.quiet (Quiet.takeEvent h k lag s)
  | flow h n => exact m.quiet (Quiet.takeFlow h n s)
  | measure k ok slot serial v => exact m.quiet (Quiet.takeMeasure k ok slot serial v s)

theorem cleared {s : State} (m : s.ModesLegal) : (completeClear s).ModesLegal := by
  unfold completeClear
  split
  next target _ _ =>
    split
    · have ended : ({ s with nc.busy := .idle } : State).ModesLegal :=
        ⟨m.held, fun _ => rfl, m.cause, m.tripped, (fun _ busy => nomatch busy), (fun _ busy => nomatch busy)⟩
      cases target <;> exact ended.same_ring rfl rfl rfl rfl rfl
    · exact m
  all_goals exact m

theorem warmed {s : State} (m : s.ModesLegal) : (completeReset s).ModesLegal := by
  unfold completeReset
  split
  next since busy =>
    split
    · have awake : s.nc.mode ≠ .waitSync := fun wait => by have := m.asleep wait; simp [busy] at this
      have pin := m.pin_of_awake awake
      rw [warmReset_eq]
      exact
        { held := fun e => by simp [pin] at e
          asleep := fun _ => rfl
          cause := by simp
          tripped := fun trip => nomatch trip
          clearing := fun _ busy => nomatch busy
          resetting := fun _ busy => nomatch busy }
    · exact m
  all_goals exact m

theorem reset : State.reset.ModesLegal := .of_check (by decide +kernel)

theorem released {s : State} (m : s.ModesLegal) (straps : BitVec 6) : (releasePin straps s).ModesLegal := by
  unfold releasePin
  split
  next pin =>
    have wait := m.held pin
    have idle := m.asleep wait
    have none := m.cause_none (by simp [wait])
    exact
      { held := fun _ => rfl
        asleep := fun _ => idle
        cause := by simp [none]
        tripped := fun trip => nomatch trip
        clearing := fun _ busy => by simp [idle] at busy
        resetting := fun _ busy => by simp [idle] at busy }
  next => exact m

theorem invariant : Invariant State.ModesLegal where
  link _ _ _ _ _ _ _ _ _ m := m.same_ring rfl rfl rfl rfl rfl
  trip _ s m := m.quiet (Quiet.requestTrip (C := fun _ => True) trivial s)
  advance a φ _ m := advancing.advance a φ m
  report _ r m := m.taken r
  loss s m := (m.same_ring (t := raiseAlert .frameDamaged s) rfl rfl rfl rfl rfl).quiet (Quiet.frameLoss (C := onlyFull) _)
  request q s pin m := m.served pin (takeRequest_served q s)
  departs s m := m.quiet (Quiet.departCommands (C := onlyFull) s)
  charge s m := m.quiet (Quiet.nextChargeExpiry s)
  clear _ m := m.cleared
  reset _ m := m.warmed
  cold _ _ := reset.same_ring rfl rfl rfl rfl rfl
  release straps _ m := m.released straps

end State.ModesLegal

/-- Settles O56: the rules of the modes are an invariant of every part of an event. -/
theorem stepKeepsModes : Obligations.StepKeepsModes :=
  fun _ _ legal taken => State.ModesLegal.invariant.step taken legal

end Sys2Proof.Machine
end

-- ==== Proofs: the rules of the records and of the head contexts ====
section
/-! PROOF. Every step keeps the rules of the records (R6, R8, R94) and the ties of each head context (R36). -/

namespace Sys2Proof.Machine

/-! ### The records -/

/-- The rules of one record (R6, R8, R94). -/
structure Record.Legal (r : Record) : Prop where
  cleared : r.state = .empty → r = Record.cleared
  verdict : r.verdict.isSome = true ↔ r.state = .final
  clean : r.verdict = some .pass ∨ r.verdict = some .sample → r.causes = 0

theorem Record.Legal.empty : Record.cleared.Legal := ⟨fun _ => rfl, by decide, fun _ => rfl⟩

namespace State.RecordsLegal

theorem record {s : State} (r : s.RecordsLegal) (k : Fin 64) : (s.record k).Legal :=
  ⟨r.cleared k, r.verdict k, r.clean k⟩

theorem of_each {s : State} (each : ∀ k, (s.record k).Legal) : s.RecordsLegal :=
  ⟨fun k => (each k).cleared, fun k => (each k).verdict, fun k => (each k).clean⟩

theorem same_ring {s t : State} (r : s.RecordsLegal) (ring : t.tu.ring = s.tu.ring) : t.RecordsLegal :=
  of_each fun k => by simpa only [State.record, ring] using r.record k

/-- A LOADED record stays LOADED with no verdict, and no other changes. -/
theorem quiet {C : TripCause → Prop} {s t : State} (r : s.RecordsLegal) (q : Quiet C s t) : t.RecordsLegal := by
  refine of_each fun k => ?_
  by_cases loaded : (s.record k).state = .loaded
  · have state := q.state k
    have verdict := (q.grows k).verdict
    have none : (s.record k).verdict = none := by
      have := r.verdict k
      simpa [loaded] using this
    exact ⟨fun empty => by simp [state, loaded] at empty, by simp [state, verdict, none, loaded],
      fun clean => by simp [verdict, none] at clean⟩
  · rw [q.kept k loaded]; exact r.record k

theorem setRecord {s : State} (r : s.RecordsLegal) {k : Fin 64} {x : Record} (legal : x.Legal) :
    (s.setRecord k x).RecordsLegal := by
  refine of_each fun j => ?_
  rw [record_setRecord]
  split
  · exact legal
  · exact r.record j

theorem lowered {s : State} (r : s.RecordsLegal) (k : Fin 8) : (lowerInUse k s).RecordsLegal := by
  rw [lowerInUse_eq]
  exact r.same_ring rfl

theorem rearmed {s : State} (r : s.RecordsLegal) (q : Option SampleRequest) : (rearmIf q s).RecordsLegal := by
  cases q with
  | none => exact r
  | some q =>
    show (rearm q s).RecordsLegal
    rcases rearm_cases q s with ⟨-, e⟩ | ⟨-, e⟩
    · rw [e]; exact r.same_ring rfl
    · rw [e]; exact r.same_ring rfl

/-- A verdict that is no REJECT is given to an empty cause set only (R94). -/
theorem causes_of_verdict {s : State} {k : Fin 64} (passed : s.verdictFor k ≠ .reject) :
    bandCauses s (s.record k) = 0 := by
  unfold State.verdictFor chooseVerdict at passed
  split at passed
  next => exact absurd rfl passed
  next clean => exact not_not.mp clean

theorem judged_legal (s : State) (k : Fin 64) : (s.judged k).Legal where
  cleared empty := nomatch (show RecordState.final = .empty from empty)
  verdict := by simp [State.judged]
  clean given := by
    refine causes_of_verdict fun reject => ?_
    simp [State.judged, reject] at given

theorem advancing : Advancing State.RecordsLegal where
  cleared _ _ r := r.setRecord .empty
  origin _ _ r := r.same_ring rfl
  held _ _ r := r.same_ring rfl
  fed s φ c p _ r := by
    have loaded (q : Option SampleRequest) : (fedRecord s φ c p q).Legal :=
      ⟨(fun empty => nomatch (show RecordState.loaded = .empty from empty)), by simp [fedRecord],
        fun given => by simp [fedRecord] at given⟩
    exact (r.setRecord (k := s.slotAt 0)
      (loaded (bindSample (recipeOf p) (s.predictedHead φ) s.vu.samples).1)).same_ring rfl
  arrival s φ p r := r.quiet (Quiet.forwardArrival φ s p)
  verdict s k _ r := by
    rw [giveVerdict_eq]
    exact ((((r.setRecord (judged_legal s k)).same_ring (t := onTally _ _ _) rfl).lowered _).rearmed _)
  jogBack s r := r.quiet (Quiet.jogBackArrival s)
  backOut s r := by
    unfold Machine.backOut
    dsimp only
    split
    · exact r
    · exact r.setRecord .empty
    · exact (((r.setRecord .empty).same_ring (t := onTally _ _ _) rfl).lowered _).rearmed _
  reported _ r := r.same_ring rfl
  drained _ _ r := r.same_ring rfl

theorem served {s t : State} (r : s.RecordsLegal) (request : Served s t) : t.RecordsLegal := by
  induction request with
  | stopped hs => exact r.quiet (Quiet.stopHeads hs s)
  | enabled hs => exact r.quiet (Quiet.foldl (C := onlyFull) Quiet.enableHead hs s)
  | disabled hs => exact r.quiet (Quiet.foldl (C := onlyFull) Quiet.disableHead hs s)
  | moved _ _ ih => exact ih.same_ring rfl
  | _ => exact r.same_ring rfl

theorem taken {s : State} (r : s.RecordsLegal) (x : Report) : (takeReport s x).RecordsLegal := by
  cases x with
  | infeed => exact r.same_ring rfl
  | event h k lag => exact r.quiet (Quiet.takeEvent h k lag s)
  | flow h n => exact r.quiet (Quiet.takeFlow h n s)
  | measure k ok slot serial v => exact r.quiet (Quiet.takeMeasure k ok slot serial v s)

theorem completeClear {s : State} (r : s.RecordsLegal) : (completeClear s).RecordsLegal := by
  unfold Machine.completeClear
  split
  next target _ _ =>
    split
    · cases target <;> exact r.same_ring rfl
    · exact r
  all_goals exact r

theorem completeReset {s : State} (r : s.RecordsLegal) : (completeReset s).RecordsLegal := by
  unfold Machine.completeReset
  split
  · split
    · exact of_each fun k => by rw [warmReset_record]; exact .empty
    · exact r
  all_goals exact r

theorem reset : State.reset.RecordsLegal := .of_check (by decide +kernel)

theorem invariant : Invariant State.RecordsLegal where
  link _ _ _ _ _ _ _ _ _ r := r.same_ring rfl
  trip _ s r := r.quiet (Quiet.requestTrip (C := fun _ => True) trivial s)
  advance a φ _ r := advancing.advance a φ r
  report _ x r := r.taken x
  loss s r := (r.same_ring (t := raiseAlert .frameDamaged s) rfl).quiet (Quiet.frameLoss (C := onlyFull) _)
  request q s _ r := r.served (takeRequest_served q s)
  departs s r := r.quiet (Quiet.departCommands (C := onlyFull) s)
  charge s r := r.quiet (Quiet.nextChargeExpiry s)
  clear _ r := r.completeClear
  reset _ r := r.completeReset
  cold _ _ := reset.same_ring rfl
  release _ _ r := by
    unfold releasePin
    split
    · exact r.same_ring rfl
    · exact r

end State.RecordsLegal

/-! ### The head contexts -/

/-- The ties of one head context (R36). -/
structure HeadContext.Legal (c : HeadContext) : Prop where
  bound : c.state.isBound = c.bound.isSome
  idle : c.state = .idle → c.enabled = true
  disabled : c.state = .disabled → c.enabled = false

namespace HeadContext.Legal

/-- The ties read the state, the flag and the bound link alone. -/
theorem of_same {c d : HeadContext} (x : c.Legal) (state : d.state = c.state) (enabled : d.enabled = c.enabled)
    (bound : d.bound = c.bound) : d.Legal :=
  ⟨by rw [state, bound]; exact x.bound, by rw [state, enabled]; exact x.idle, by rw [state, enabled]; exact x.disabled⟩

/-- A bound head in any bound state. -/
theorem of_bound {c : HeadContext} (state : c.state.isBound = true) (bound : c.bound.isSome = true) : c.Legal :=
  ⟨by rw [state, bound], fun e => by simp [e, HeadState.isBound] at state,
    fun e => by simp [e, HeadState.isBound] at state⟩

/-- An unbound head out of its cycle: ABORTING, FAULTED, or IDLE or DISABLED by its flag. -/
theorem of_free {c : HeadContext} (state : c.state = .aborting ∨ c.state = .faulted ∨ c.state = freeState c)
    (bound : c.bound = none) : c.Legal := by
  rcases state with e | e | e
  · exact ⟨by simp [e, bound, HeadState.isBound], fun x => by simp [e] at x, fun x => by simp [e] at x⟩
  · exact ⟨by simp [e, bound, HeadState.isBound], fun x => by simp [e] at x, fun x => by simp [e] at x⟩
  · unfold freeState at e
    split at e
    next on => exact ⟨by simp [e, bound, HeadState.isBound], fun _ => on, fun x => by simp [e] at x⟩
    next off => exact ⟨by simp [e, bound, HeadState.isBound], fun x => by simp [e] at x, fun _ => by simpa using off⟩

theorem warm (c : HeadContext) : c.warm.Legal := by
  refine of_free ?_ rfl
  by_cases faulted : c.state = .faulted
  · exact .inr (.inl (by simp [HeadContext.warm, faulted]))
  · exact .inr (.inr (by simp [HeadContext.warm, faulted, freeState]))

end HeadContext.Legal

namespace State.HeadsLegal

theorem head {s : State} (x : s.HeadsLegal) (h : Fin 24) : (s.head h).Legal := ⟨x.bound h, x.idle h, x.disabled h⟩

theorem of_each {s : State} (each : ∀ h, (s.head h).Legal) : s.HeadsLegal :=
  ⟨fun h => (each h).bound, fun h => (each h).idle, fun h => (each h).disabled⟩

theorem same_heads {s t : State} (x : s.HeadsLegal) (heads : t.hu.heads = s.hu.heads) : t.HeadsLegal :=
  of_each fun h => by simpa only [State.head, heads] using x.head h

theorem setHead {s : State} (x : s.HeadsLegal) {h : Fin 24} {c : HeadContext} (legal : c.Legal) :
    (s.setHead h c).HeadsLegal := by
  refine of_each fun j => ?_
  rw [head_setHead]
  split
  · exact legal
  · exact x.head j

theorem bound_isSome {s : State} (x : s.HeadsLegal) {h : Fin 24} (state : (s.head h).state.isBound = true) :
    (s.head h).bound.isSome = true := (x.bound h).symm.trans state

theorem writeLoaded {s : State} (x : s.HeadsLegal) (l : Link) (f : Record → Record) : (writeLoaded l f s).HeadsLegal :=
  x.same_heads (by rw [writeLoaded_hu])

theorem addCauseTo {s : State} (x : s.HeadsLegal) (l : Link) (c : Cause) : (addCauseTo l c s).HeadsLegal :=
  x.writeLoaded _ _

theorem addBoundCause {s : State} (x : s.HeadsLegal) (h : Fin 24) (c : Cause) : (addBoundCause h c s).HeadsLegal := by
  unfold Machine.addBoundCause
  split
  · exact x.addCauseTo _ _
  · exact x

/-- Leaving the cycle unbound. -/
theorem unbindTo {s : State} (x : s.HeadsLegal) {h : Fin 24} {st : HeadState}
    (free : st = .aborting ∨ st = .faulted ∨ st = freeState (s.head h)) : (leaveTo h st (unbind h s)).HeadsLegal := by
  refine of_each fun j => ?_
  rw [head_leaveTo, head_unbind, head_unbind]
  by_cases own : j = h
  · subst own
    refine .of_free ?_ ?_
    · cases (s.head j).bound <;> simpa [freeState] using free
    · cases e : (s.head j).bound <;> simp [e]
  · simpa [own] using x.head j

theorem tripHead {s : State} (x : s.HeadsLegal) (h : Fin 24) : (tripHead s h).HeadsLegal := by
  unfold Machine.tripHead
  split
  · exact x.unbindTo (.inl rfl)
  · exact x

theorem tripHeads {s : State} (x : s.HeadsLegal) : (tripHeads s).HeadsLegal := by
  unfold Machine.tripHeads
  generalize List.finRange 24 = hs
  induction hs generalizing s with
  | nil => exact x
  | cons h hs ih => exact ih (x.tripHead h)

theorem tripEntry {s : State} (x : s.HeadsLegal) (cause : TripCause) : (tripEntry cause s).HeadsLegal := by
  have taken := (x.same_heads (t := tripMarked cause s) rfl).tripHeads
  rw [tripEntry_eq]
  refine of_each fun h => (taken.head h).of_same ?_ ?_ ?_ <;> simp [State.head]

theorem requestTrip {s : State} (x : s.HeadsLegal) (cause : TripCause) : (requestTrip cause s).HeadsLegal := by
  unfold Machine.requestTrip
  split
  · exact x.tripEntry cause
  · exact x.tripEntry cause
  · exact x.same_heads rfl
  · split
    · exact x
    · exact x.same_heads rfl
  · exact x

theorem queueCommand {s : State} (x : s.HeadsLegal) (c : HeadCommand) : (queueCommand c s).HeadsLegal := by
  unfold Machine.queueCommand
  dsimp only
  split
  · exact x.same_heads rfl
  · exact (x.same_heads (t := { s with lp.queue := s.lp.queue.filter (keepsCommand c) }) rfl).requestTrip _

theorem abortHead {s : State} (x : s.HeadsLegal) (h : Fin 24) (c : Cause) : (abortHead h c s).HeadsLegal :=
  ((x.addBoundCause h c).unbindTo (.inl rfl)).queueCommand _

theorem openCharge {s : State} (x : s.HeadsLegal) {h : Fin 24} (bound : (s.head h).bound.isSome = true) (l : Link) :
    (openCharge h l s).HeadsLegal :=
  ((x.writeLoaded l _).setHead (.of_bound rfl (by simpa using bound))).queueCommand _

theorem openIfReady {s : State} (x : s.HeadsLegal) (h : Fin 24) : (openIfReady h s).HeadsLegal := by
  unfold Machine.openIfReady
  split
  next bound =>
    split
    · exact x.openCharge (by simp [bound]) _
    · exact x
  next => exact x

theorem sendCrimp {s : State} (x : s.HeadsLegal) (h : Fin 24) : (sendCrimp h s).HeadsLegal := by
  unfold Machine.sendCrimp
  split
  next bound =>
    split
    · exact (x.setHead (.of_bound rfl (by simp [bound]))).queueCommand _
    · exact x
  next => exact x

/-- A charge ends only for a bound head. -/
theorem endCharge {s : State} (x : s.HeadsLegal) {h : Fin 24} (bound : (s.head h).bound.isSome = true) :
    (endCharge h s).HeadsLegal := by
  have settled : (leaveTo h .settling s).HeadsLegal := x.setHead (.of_bound rfl bound)
  exact (settled.queueCommand ⟨h, .closeGas, 0⟩).sendCrimp h

theorem bindHead {s : State} (x : s.HeadsLegal) (h : Fin 24) (k : Fin 64) : (bindHead h k s).HeadsLegal := by
  have engaged (l : Link) : (s.setHead h { s.head h with
      state := .engaged, bound := some l, trailing := none, clampWait := 0 }).HeadsLegal := x.setHead (.of_bound rfl rfl)
  exact (engaged (s.tagOf k)).same_heads rfl

theorem engagementArrival {s : State} (x : s.HeadsLegal) (φ : Fin 24) (k : Fin 64) :
    (engagementArrival φ k s).HeadsLegal := by
  unfold Machine.engagementArrival
  dsimp only
  split
  · exact x
  · have attempted (r : Record) : (s.setRecord k r).HeadsLegal := x.same_heads rfl
    split
    · split
      · exact ((attempted _).bindHead φ k).queueCommand _
      · exact (attempted _).addCauseTo _ _
    · exact attempted _

theorem clampWaitArrival {s : State} (x : s.HeadsLegal) (h : Fin 24) (r : Record) (p : Nat) :
    (clampWaitArrival h r p s).HeadsLegal := by
  have counted (n : Nat) : (s.setHead h { s.head h with clampWait := n }).HeadsLegal :=
    x.setHead ((x.head h).of_same rfl rfl rfl)
  unfold Machine.clampWaitArrival
  dsimp only
  split
  · exact (counted _).abortHead _ _
  · exact counted _

theorem releaseArrival {s : State} (x : s.HeadsLegal) (h : Fin 24) (k : Fin 64) : (releaseArrival h k s).HeadsLegal := by
  unfold Machine.releaseArrival
  dsimp only
  refine queueCommand (unbindTo (x.writeLoaded _ _) (.inr (.inr ?_))) _
  rw [head_unbind]
  cases ((Machine.writeLoaded _ _ s).head h).bound <;> simp [freeState]

theorem turretArrival {s : State} (x : s.HeadsLegal) (h : Fin 24) (k : Fin 64) (p : Nat) :
    (turretArrival h k p s).HeadsLegal := by
  unfold Machine.turretArrival
  split
  · exact x.releaseArrival _ _
  · cases e : (s.head h).state with
    | engaged => exact x.clampWaitArrival _ _ _
    | clamped => exact x.openIfReady _
    | charging =>
      dsimp only
      split
      · exact (x.addCauseTo _ _).endCharge (by simpa [Machine.addCauseTo] using x.bound_isSome (by rw [e]; rfl))
      · exact x
    | settling => exact x.sendCrimp _
    | _ => exact x

theorem forwardArrival {s : State} (x : s.HeadsLegal) (φ : Fin 24) (p : Nat) : (forwardArrival φ s p).HeadsLegal := by
  unfold Machine.forwardArrival
  dsimp only
  split
  · split
    · exact x.engagementArrival _ _
    · split
      · exact x.turretArrival _ _ _
      · exact x
  · exact x

theorem jogBackArrival {s : State} (x : s.HeadsLegal) : (jogBackArrival s).HeadsLegal := by
  unfold Machine.jogBackArrival
  dsimp only
  split
  · split
    · split
      · exact x.abortHead _ _
      · exact x
    · exact x
  · exact x

theorem eventMove {s : State} (x : s.HeadsLegal) (h : Fin 24) (k : EventKind) : (eventMove h k s).HeadsLegal := by
  have advanced {st : HeadState} (was : (s.head h).state.isBound = true) (now : st.isBound = true) :
      (s.setHead h { s.head h with state := st }).HeadsLegal := x.setHead (.of_bound now (x.bound_isSome was))
  cases k with
  | clamped =>
    unfold Machine.eventMove
    dsimp only
    split
    next engaged => exact (advanced (by rw [engaged]; rfl) rfl).openIfReady h
    next => exact x
  | bottom =>
    unfold Machine.eventMove
    dsimp only
    split
    next crimping => exact advanced (by rw [crimping]; rfl) rfl
    next => exact x
  | _ => exact x

theorem faultEvent {s : State} (x : s.HeadsLegal) (h : Fin 24) : (faultEvent h s).HeadsLegal := by
  have alert : (raiseAlert .headFault s).HeadsLegal := x.same_heads rfl
  unfold Machine.faultEvent
  dsimp only
  split
  · exact ((alert.addBoundCause _ _).unbindTo (.inr (.inl rfl))).queueCommand _
  next unbound =>
    have none : (s.head h).bound = none := by simpa using unbound
    exact alert.setHead (.of_free (.inr (.inl rfl)) none)

theorem takeEvent {s : State} (x : s.HeadsLegal) (w : Word) (k : Option EventKind) (lag : Word) :
    (takeEvent w k lag s).HeadsLegal := by
  unfold Machine.takeEvent
  split
  · exact x.faultEvent _
  · unfold headEvent
    split
    · exact x.same_heads rfl
    · exact (x.writeLoaded _ _).eventMove _ _
  · exact x.same_heads rfl

theorem headFlow {s : State} (x : s.HeadsLegal) (h : Fin 24) (n : Nat) : (headFlow h n s).HeadsLegal := by
  unfold Machine.headFlow
  split
  · exact x.same_heads rfl
  next l _ =>
    have added : (addPulses l n s).HeadsLegal := x.writeLoaded _ _
    dsimp only
    split
    next charging =>
      have bound := added.bound_isSome (h := h) (by rw [charging]; rfl)
      have counted (d : Int) : ((addPulses l n s).setHead h { (addPulses l n s).head h with doseCounter := d }).HeadsLegal :=
        added.setHead ((added.head h).of_same rfl rfl rfl)
      split
      · exact (counted _).endCharge (by simpa using bound)
      · exact counted _
    next => exact added

theorem takeFlow {s : State} (x : s.HeadsLegal) (w : Word) (n : BitVec 8) : (takeFlow w n s).HeadsLegal := by
  unfold Machine.takeFlow
  split
  · exact x.headFlow _ _
  · exact x.same_heads rfl

theorem takeMeasure {s : State} (x : s.HeadsLegal) (k : Option MeasureKind) (ok : Bool) (slot serial v : Word) :
    (takeMeasure k ok slot serial v s).HeadsLegal := by
  unfold Machine.takeMeasure
  split
  · unfold deliverMeasure
    dsimp only
    split
    · split
      · exact x.same_heads rfl
      · exact x
    · split <;> exact x.same_heads rfl
  · exact x.same_heads rfl

theorem taken {s : State} (x : s.HeadsLegal) (r : Report) : (takeReport s r).HeadsLegal := by
  cases r with
  | infeed => exact x.same_heads rfl
  | event h k lag => exact x.takeEvent h k lag
  | flow h n => exact x.takeFlow h n
  | measure k ok slot serial v => exact x.takeMeasure k ok slot serial v

theorem folded {α : Type} {f : State → α → State} (each : ∀ s a, s.HeadsLegal → (f s a).HeadsLegal) (as : List α)
    {s : State} (x : s.HeadsLegal) : (as.foldl f s).HeadsLegal := by
  induction as generalizing s with
  | nil => exact x
  | cons a as ih => exact ih (each s a x)

theorem frameLoss {s : State} (x : s.HeadsLegal) : (frameLoss s).HeadsLegal := by
  refine folded (fun s h x => ?_) _ x
  unfold frameLossHead
  split
  · exact x.addBoundCause _ _
  · exact x

theorem nextChargeExpiry {s : State} (x : s.HeadsLegal) : (nextChargeExpiry s).HeadsLegal := by
  unfold Machine.nextChargeExpiry
  split
  next h due =>
    have found : s.chargeDue h = true := List.find?_some due
    have charging : (s.head h).state = .charging := by
      unfold State.chargeDue at found
      split at found
      · simp only [Bool.and_eq_true, beq_iff_eq] at found; exact found.1
      · cases found
    have bound := x.bound_isSome (h := h) (by rw [charging]; rfl)
    refine (x.addBoundCause h .overtime).endCharge ?_
    unfold Machine.addBoundCause
    split
    · simpa [Machine.addCauseTo] using bound
    · exact bound
  next => exact x

theorem commandDeparts {s : State} (x : s.HeadsLegal) (c : HeadCommand) : (commandDeparts s c).HeadsLegal := by
  unfold Machine.commandDeparts
  split
  · unfold armTimer
    split
    · exact x.setHead ((x.head c.head).of_same rfl rfl rfl)
    · exact x
  · unfold abortDeparts
    split
    next aborting =>
      have none : (s.head c.head).bound = none := by
        have := x.bound c.head
        simpa [aborting, HeadState.isBound] using this.symm
      exact x.setHead (.of_free (.inr (.inr rfl)) none)
    next => exact x
  all_goals exact x

theorem departCommands {s : State} (x : s.HeadsLegal) : (departCommands s).HeadsLegal :=
  folded (fun _ c x => x.commandDeparts c) _ (x.same_heads rfl)

theorem enableHead {s : State} (x : s.HeadsLegal) (h : Fin 24) : (enableHead s h).HeadsLegal := by
  refine x.setHead ?_
  have legal := x.head h
  by_cases out : (s.head h).state = .disabled ∨ (s.head h).state = .faulted
  · have none : (s.head h).bound = none := by
      have := legal.bound
      rcases out with e | e <;> simpa [e, HeadState.isBound] using this.symm
    exact ⟨by simp [out, none, HeadState.isBound], fun _ => rfl, fun e => by simp [out] at e⟩
  · refine ⟨by simpa [out] using legal.bound, fun _ => rfl, fun e => ?_⟩
    simp only [if_neg out] at e
    exact absurd (.inl e) out

theorem disableHead {s : State} (x : s.HeadsLegal) (h : Fin 24) : (disableHead s h).HeadsLegal := by
  refine x.setHead ?_
  have legal := x.head h
  by_cases idle : (s.head h).state = .idle
  · have none : (s.head h).bound = none := by
      have := legal.bound
      simpa [idle, HeadState.isBound] using this.symm
    exact ⟨by simp [idle, none, HeadState.isBound], fun e => by simp [idle] at e, fun _ => rfl⟩
  · exact ⟨by simpa [idle] using legal.bound, fun e => by simp [idle] at e, fun _ => rfl⟩

theorem stopHead {s : State} (x : s.HeadsLegal) (h : Fin 24) : (stopHead s h).HeadsLegal := by
  unfold Machine.stopHead
  dsimp only
  split
  · exact (x.disableHead h).abortHead _ _
  · exact x.disableHead h

theorem stopHeads {s : State} (x : s.HeadsLegal) (hs : List (Fin 24)) : (stopHeads hs s).2.HeadsLegal := by
  induction hs generalizing s with
  | nil => exact x
  | cons h hs ih => exact ih (x.stopHead h)

theorem lowered {s : State} (x : s.HeadsLegal) (k : Fin 8) : (lowerInUse k s).HeadsLegal := by
  rw [lowerInUse_eq]
  exact x.same_heads rfl

theorem rearmed {s : State} (x : s.HeadsLegal) (q : Option SampleRequest) : (rearmIf q s).HeadsLegal := by
  cases q with
  | none => exact x
  | some q =>
    show (rearm q s).HeadsLegal
    rcases rearm_cases q s with ⟨-, e⟩ | ⟨-, e⟩
    · rw [e]; exact x.same_heads rfl
    · rw [e]; exact x.same_heads rfl

theorem advancing : Advancing State.HeadsLegal where
  cleared _ _ x := x.same_heads rfl
  origin _ _ x := x.same_heads rfl
  held _ _ x := x.same_heads rfl
  fed _ _ _ _ _ x := x.same_heads rfl
  arrival _ φ p x := x.forwardArrival φ p
  verdict s k _ x := by
    rw [giveVerdict_eq]
    exact (x.same_heads (t := onTally _ _ (s.setRecord k _)) rfl).lowered _ |>.rearmed _
  jogBack _ x := x.jogBackArrival
  backOut s x := by
    unfold Machine.backOut
    dsimp only
    split
    · exact x
    · exact x.same_heads rfl
    · exact (x.same_heads (t := onTally _ _ (s.setRecord _ _)) rfl).lowered _ |>.rearmed _
  reported _ x := x.same_heads rfl
  drained _ _ x := x.same_heads rfl

theorem served {s t : State} (x : s.HeadsLegal) (request : Served s t) : t.HeadsLegal := by
  induction request with
  | stopped hs => exact x.stopHeads hs
  | enabled hs => exact folded (fun _ h x => x.enableHead h) hs x
  | disabled hs => exact folded (fun _ h x => x.disableHead h) hs x
  | moved _ _ ih => exact ih.same_heads rfl
  | _ => exact x.same_heads rfl

theorem completeClear {s : State} (x : s.HeadsLegal) : (completeClear s).HeadsLegal := by
  unfold Machine.completeClear
  split
  next target _ _ =>
    split
    · cases target <;> exact x.same_heads rfl
    · exact x
  all_goals exact x

theorem completeReset {s : State} (x : s.HeadsLegal) : (completeReset s).HeadsLegal := by
  unfold Machine.completeReset
  split
  · split
    · exact of_each fun h => by rw [warmReset_head]; exact .warm _
    · exact x
  all_goals exact x

theorem reset : State.reset.HeadsLegal := .of_check (by decide +kernel)

theorem invariant : Invariant State.HeadsLegal where
  link _ _ _ _ _ _ _ _ _ x := x.same_heads rfl
  trip cause _ x := x.requestTrip cause
  advance a φ _ x := advancing.advance a φ x
  report _ r x := x.taken r
  loss s x := (x.same_heads (t := raiseAlert .frameDamaged s) rfl).frameLoss
  request q s _ x := x.served (takeRequest_served q s)
  departs _ x := x.departCommands
  charge _ x := x.nextChargeExpiry
  clear _ x := x.completeClear
  reset _ x := x.completeReset
  cold _ _ := reset.same_heads rfl
  release _ _ x := by
    unfold releasePin
    split
    · exact x.same_heads rfl
    · exact x

end State.HeadsLegal

/-- Settles O57: the rules of the records and the ties of the head contexts are invariants of every part of an event. -/
theorem stepKeepsRecordsAndHeads : Obligations.StepKeepsRecordsAndHeads :=
  ⟨fun _ _ legal taken => State.RecordsLegal.invariant.step taken legal,
    fun _ _ legal taken => State.HeadsLegal.invariant.step taken legal⟩

end Sys2Proof.Machine
end

-- ==== Proofs: the account of the cans ====
section
/-! PROOF. Every step keeps the account of the cans (R103, R108, R21, R3, R144, R13). The account is parted in three: the ledger,
which every piece of an event keeps; the positions of the LOADED records, which an advance moves up to J and the gate takes
back below it; and TU's report, which the end of an advance writes anew. -/

namespace Sys2Proof.Machine

/-! ### Positions -/

@[simp] theorem position_slotAt (s : State) {p : Nat} (track : p < 64) : s.position (s.slotAt p) = p := by
  have o := s.tu.origin.isLt
  simp only [State.position, State.slotAt, Fin.sub_def, Fin.ofNat]
  omega

theorem slotAt_position (s : State) (k : Fin 64) : s.slotAt (s.position k) = k := by
  have o := s.tu.origin.isLt
  have b := k.isLt
  apply Fin.ext
  simp only [State.position, State.slotAt, Fin.sub_def, Fin.ofNat]
  omega

theorem position_lt (s : State) (k : Fin 64) : s.position k < 64 := (k - s.tu.origin).isLt

theorem eq_slotAt_iff (s : State) (k : Fin 64) {p : Nat} (track : p < 64) : k = s.slotAt p ↔ s.position k = p := by
  constructor
  · rintro rfl; exact position_slotAt s track
  · rintro rfl; exact (slotAt_position s k).symm

/-- A position in terms of the slot and the origin. -/
theorem position_eq (s : State) (k : Fin 64) : s.position k = (64 - s.tu.origin.val + k.val) % 64 := rfl

theorem position_originForward (s : State) (k : Fin 64) :
    (originForward s).position k = if s.position k = 63 then 0 else s.position k + 1 := by
  have o := s.tu.origin.isLt
  have b := k.isLt
  have moved : (originForward s).tu.origin.val = (63 + s.tu.origin.val) % 64 := rfl
  have now := position_eq (originForward s) k
  have was := position_eq s k
  by_cases last : s.position k = 63
  · rw [if_pos last]; omega
  · rw [if_neg last]; omega

theorem position_originReverse (s : State) (k : Fin 64) :
    (originReverse s).position k = if s.position k = 0 then 63 else s.position k - 1 := by
  have o := s.tu.origin.isLt
  have b := k.isLt
  have moved : (originReverse s).tu.origin.val = (s.tu.origin.val + 1) % 64 := rfl
  have now := position_eq (originReverse s) k
  have was := position_eq s k
  by_cases first : s.position k = 0
  · rw [if_pos first]; omega
  · rw [if_neg first]; omega

theorem slotAt_originForward (s : State) (p : Nat) (track : p < 63) :
    (originForward s).slotAt (p + 1) = s.slotAt p := by
  symm
  rw [eq_slotAt_iff _ _ (by omega), position_originForward, position_slotAt _ (by omega), if_neg (by omega)]

theorem slotAt_originForward_zero (s : State) : (originForward s).slotAt 0 = s.slotAt 63 := by
  symm
  rw [eq_slotAt_iff _ _ (by omega), position_originForward, position_slotAt _ (by omega), if_pos rfl]

/-! ### The station table (R3) -/

/-- A valid table's stations, in order. -/
structure State.Ordered (s : State) : Prop where
  first : 1 ≤ s.stationE
  gas : s.stationE ≤ s.stationG
  charge : s.stationG < s.stationC
  release : s.stationC < s.stationR
  afterRelease : s.stationR < s.stationK
  crimped : s.stationK ≤ s.stationW
  gate : s.stationW < s.stationJ
  last : s.stationJ ≤ 62
  span : s.stationR - s.stationE ≤ 23

theorem State.Ordered.of_valid {s : State} (valid : s.stationsValid = true) : s.Ordered := by
  unfold State.stationsValid at valid
  obtain ⟨a, b, c, d, e, f, g, h, i⟩ := of_decide_eq_true valid
  exact ⟨a, b, c, d, e, f, g, h, i⟩

theorem stationsValid_congr {s t : State} (stations : t.tu.stations = s.tu.stations) :
    t.stationsValid = s.stationsValid := by
  have table (u : State) : u.stationsValid = true ↔ (1 ≤ u.stationE ∧ u.stationE ≤ u.stationG ∧ u.stationG < u.stationC ∧
      u.stationC < u.stationR ∧ u.stationR < u.stationK ∧ u.stationK ≤ u.stationW ∧ u.stationW < u.stationJ ∧
      u.stationJ ≤ 62 ∧ u.stationR - u.stationE ≤ 23) := decide_eq_true_iff
  rw [Bool.eq_iff_iff, table, table]
  simp only [State.stationE, State.stationG, State.stationC, State.stationR, State.stationK, State.stationW,
    State.stationJ, stations]

/-! ### The counts of LOADED records -/

theorem allEmpty_iff (s : State) : s.allEmpty = true ↔ ∀ k, (s.record k).state = .empty := by
  simp only [State.allEmpty, Vector.all_eq_true, beq_iff_eq, State.record]
  exact ⟨fun each k => each k.val k.isLt, fun each i h => each ⟨i, h⟩⟩

/-- A record that an in-use count counts (R108). -/
def Record.counts (r : Record) (j : Fin 8) : Bool := r.state == .loaded && r.recipe == j

theorem counts_notLoaded {r : Record} (other : r.state ≠ .loaded) (j : Fin 8) : r.counts j = false := by
  simp [Record.counts, other]

theorem counts_loaded {r : Record} (loaded : r.state = .loaded) (j : Fin 8) : r.counts j = (r.recipe == j) := by
  simp [Record.counts, loaded]

theorem loadedOf_eq (s : State) (j : Fin 8) : s.loadedOf j = s.tu.ring.countP (Record.counts · j) := by
  simp only [State.loadedOf, Vector.countP_toList, Record.counts]

/-- Writing one record moves the count by what that record counted and counts. -/
theorem loadedOf_setRecord (s : State) (k : Fin 64) (r : Record) (j : Fin 8) :
    (s.setRecord k r).loadedOf j + (if (s.record k).counts j = true then 1 else 0) =
      s.loadedOf j + (if r.counts j = true then 1 else 0) := by
  have counted : (s.record k).counts j = true → 0 < s.tu.ring.countP (Record.counts · j) := fun counts =>
    Vector.countP_pos_iff.mpr ⟨s.record k, Vector.getElem_mem k.isLt, counts⟩
  rw [loadedOf_eq, loadedOf_eq, setRecord_ring, Vector.countP_set]
  change _ - (if (s.record k).counts j = true then 1 else 0) + _ + _ = _
  by_cases old : (s.record k).counts j = true
  · have := counted old
    simp only [if_pos old]
    omega
  · simp only [if_neg old]
    omega

theorem loadedOf_congr {s t : State} (same : ∀ k, (t.record k).state = (s.record k).state ∧
    (t.record k).recipe = (s.record k).recipe) (j : Fin 8) : t.loadedOf j = s.loadedOf j := by
  have read : t.tu.ring.map (fun r => (r.state, r.recipe)) = s.tu.ring.map (fun r => (r.state, r.recipe)) := by
    apply Vector.ext
    intro i h
    obtain ⟨state, recipe⟩ := same ⟨i, h⟩
    simp only [Vector.getElem_map, Prod.mk.injEq]
    exact ⟨state, recipe⟩
  have counted (ring : Vector Record 64) : ring.countP (Record.counts · j) =
      (ring.map (fun r => (r.state, r.recipe))).countP (fun x => x.1 == .loaded && x.2 == j) := by
    rw [Vector.countP_map]
    rfl
  rw [loadedOf_eq, loadedOf_eq, counted, counted, read]

theorem loadedOf_ring {s t : State} (ring : t.tu.ring = s.tu.ring) (j : Fin 8) : t.loadedOf j = s.loadedOf j := by
  rw [loadedOf_eq, loadedOf_eq, ring]

theorem loadedOf_pos {s : State} {k : Fin 64} (loaded : (s.record k).state = .loaded) :
    0 < s.loadedOf (s.record k).recipe := by
  rw [loadedOf_eq]
  exact Vector.countP_pos_iff.mpr ⟨s.record k, Vector.getElem_mem k.isLt, by simp [Record.counts, loaded]⟩

theorem loadedOf_empty {s : State} (empty : ∀ k, (s.record k).state = .empty) (j : Fin 8) : s.loadedOf j = 0 := by
  rw [loadedOf_eq, Vector.countP_eq_zero]
  intro r mem
  obtain ⟨i, h, rfl⟩ := Vector.mem_iff_getElem.mp mem
  have := empty ⟨i, h⟩
  simp only [State.record, Fin.getElem_fin] at this
  simp [Record.counts, this]

/-! ### Tallies (R103) -/

/-- The cans of a slot that have gone, by the four ways a can goes. -/
def Tally.gone (t : Tally) : BitVec 32 := t.passed + t.rejected + t.sampled + t.backedOut

theorem count_admitted (t : Tally) (v : Verdict) : (t.count v).admitted = t.admitted := by cases v <;> rfl

theorem count_gone (t : Tally) (v : Verdict) : (t.count v).gone = t.gone + 1 := by
  cases v <;> (simp only [Tally.count, Tally.gone]; ac_rfl)

theorem tally_onTally (s : State) (k j : Fin 8) (f : Tally → Tally) :
    (onTally k f s).vu.tallies[j] = if j = k then f s.vu.tallies[k] else s.vu.tallies[j] := by
  simp only [onTally, Fin.getElem_fin, Vector.getElem_set]
  by_cases same : j = k
  · subst same; simp
  · have : ¬ k.val = j.val := fun e => same (Fin.ext e.symm)
    simp [same, this]

@[simp] theorem lowered_inUse (rs : RecipeStore) (k : Fin 8) : (rs.lowered k).inUse = rs.inUse.set k (rs.inUse[k] - 1) := by
  unfold RecipeStore.lowered
  dsimp only
  split <;> rfl

theorem inUse_lowerInUse (s : State) (k j : Fin 8) :
    (lowerInUse k s).inUse j = if j = k then s.inUse k - 1 else s.inUse j := by
  rw [lowerInUse_eq]
  simp only [State.inUse, lowered_inUse, Fin.getElem_fin, Vector.getElem_set]
  by_cases same : j = k
  · simp [same]
  · have : ¬ k.val = j.val := fun e => same (Fin.ext e.symm)
    simp [same, this]

theorem inUse_raiseInUse (s : State) (k j : Fin 8) :
    (raiseInUse k s).inUse j = if j = k then s.inUse k + 1 else s.inUse j := by
  simp only [raiseInUse, State.inUse, Fin.getElem_fin, Vector.getElem_set]
  by_cases same : j = k
  · simp [same]
  · have : ¬ k.val = j.val := fun e => same (Fin.ext e.symm)
    simp [same, this]

/-! ### What a re-arming and the fall of an in-use count leave -/

theorem rearmIf_eq (q : Option SampleRequest) (s : State) : rearmIf q s =
    { s with vu.samples := (rearmIf q s).vu.samples, nc.alerts := (rearmIf q s).nc.alerts } := by
  cases q with
  | none => rfl
  | some q =>
    show rearm q s = { s with vu.samples := (rearm q s).vu.samples, nc.alerts := (rearm q s).nc.alerts }
    rcases rearm_cases q s with ⟨-, e⟩ | ⟨-, e⟩
    · rw [e]
    · rw [e]; rfl

section
variable (q : Option SampleRequest) (k : Fin 8) (s : State)

@[simp] theorem rearmIf_lp : (rearmIf q s).lp = s.lp := by rw [rearmIf_eq]
@[simp] theorem rearmIf_tu : (rearmIf q s).tu = s.tu := by rw [rearmIf_eq]
@[simp] theorem rearmIf_hu : (rearmIf q s).hu = s.hu := by rw [rearmIf_eq]
@[simp] theorem rearmIf_tallies : (rearmIf q s).vu.tallies = s.vu.tallies := by rw [rearmIf_eq]
@[simp] theorem rearmIf_rs : (rearmIf q s).rs = s.rs := by rw [rearmIf_eq]
@[simp] theorem rearmIf_mode : (rearmIf q s).nc.mode = s.nc.mode := by rw [rearmIf_eq]
@[simp] theorem rearmIf_busy : (rearmIf q s).nc.busy = s.nc.busy := by rw [rearmIf_eq]
@[simp] theorem rearmIf_ringEmpty : (rearmIf q s).nc.ringEmpty = s.nc.ringEmpty := by rw [rearmIf_eq]
@[simp] theorem rearmIf_coldResetPin : (rearmIf q s).coldResetPin = s.coldResetPin := by rw [rearmIf_eq]

@[simp] theorem lowerInUse_lp : (lowerInUse k s).lp = s.lp := by rw [lowerInUse_eq]
@[simp] theorem lowerInUse_tu : (lowerInUse k s).tu = s.tu := by rw [lowerInUse_eq]
@[simp] theorem lowerInUse_hu : (lowerInUse k s).hu = s.hu := by rw [lowerInUse_eq]
@[simp] theorem lowerInUse_vu : (lowerInUse k s).vu = s.vu := by rw [lowerInUse_eq]
@[simp] theorem lowerInUse_nc : (lowerInUse k s).nc = s.nc := by rw [lowerInUse_eq]
@[simp] theorem lowerInUse_coldResetPin : (lowerInUse k s).coldResetPin = s.coldResetPin := by rw [lowerInUse_eq]

end

/-! ### What a FEED leaves (R28, R30) -/

/-- The record that a FEED puts at position 0, with the request bound to it. -/
def State.firstRecord (s : State) (φ : Fin 24) (c : Candidate) (p : Fin 16) : Record :=
  fedRecord s φ c p (bindSample (recipeOf p) (s.predictedHead φ) s.vu.samples).1

theorem feed_ring (φ : Fin 24) (c : Candidate) (p : Fin 16) (s : State) :
    (feed φ c p s).tu.ring = (s.setRecord (s.slotAt 0) (s.firstRecord φ c p)).tu.ring := rfl

theorem feed_record (φ : Fin 24) (c : Candidate) (p : Fin 16) (s : State) (k : Fin 64) :
    (feed φ c p s).record k = if k = s.slotAt 0 then s.firstRecord φ c p else s.record k :=
  record_setRecord s (s.slotAt 0) k _

theorem feed_tallies (φ : Fin 24) (c : Candidate) (p : Fin 16) (s : State) : (feed φ c p s).vu.tallies =
    (onTally (recipeOf p) (fun t => { t with admitted := t.admitted + 1 }) s).vu.tallies := rfl

theorem feed_inUse (φ : Fin 24) (c : Candidate) (p : Fin 16) (s : State) (j : Fin 8) :
    (feed φ c p s).inUse j = if j = recipeOf p then s.inUse j + 1 else s.inUse j := by
  refine (inUse_raiseInUse s (recipeOf p) j).trans ?_
  by_cases own : j = recipeOf p
  · rw [if_pos own, if_pos own, own]
  · rw [if_neg own, if_neg own]

theorem gone_admitted (t : Tally) (n : BitVec 32) : ({ t with admitted := n } : Tally).gone = t.gone := rfl

/-! ### The ledger -/

/-- The account without TU's report and the place of the LOADED records. -/
structure State.Ledger (s : State) : Prop where
  held : s.coldResetPin = true → s.nc.mode = .waitSync
  asleep : s.nc.mode = .waitSync → s.nc.busy = .idle
  table : s.nc.mode = .run ∨ s.nc.mode = .drain ∨ s.nc.mode = .trip → s.stationsValid = true
  empty : s.nc.mode = .waitSync ∨ s.nc.mode = .standby → ∀ k, (s.record k).state = .empty
  inUse : ∀ k, s.inUse k = s.loadedOf k
  balance : ∀ k : Fin 8, (s.vu.tallies[k]).admitted = (s.vu.tallies[k]).gone + BitVec.ofNat 32 (s.inUse k)

/-- Every LOADED record stands below a position. -/
def State.LoadedBelow (s : State) (p : Nat) : Prop := ∀ k, (s.record k).state = .loaded → s.position k < p

namespace State.Ledger

/-- The mode of a state with a LOADED record, and so its table. -/
theorem mode_loaded {s : State} (l : s.Ledger) {k : Fin 64} (loaded : (s.record k).state = .loaded) :
    s.nc.mode = .run ∨ s.nc.mode = .drain ∨ s.nc.mode = .trip := by
  have resting (rest : s.nc.mode = .waitSync ∨ s.nc.mode = .standby) : False := by
    have := l.empty rest k
    simp [loaded] at this
  cases mode : s.nc.mode <;> simp_all

theorem ordered_loaded {s : State} (l : s.Ledger) {k : Fin 64} (loaded : (s.record k).state = .loaded) : s.Ordered :=
  .of_valid (l.table (l.mode_loaded loaded))

theorem of_same {s t : State} (l : s.Ledger) (pin : t.coldResetPin = s.coldResetPin) (mode : t.nc.mode = s.nc.mode)
    (busy : t.nc.busy = s.nc.busy) (stations : t.tu.stations = s.tu.stations) (ring : t.tu.ring = s.tu.ring)
    (inUse : t.rs.inUse = s.rs.inUse) (tallies : t.vu.tallies = s.vu.tallies) : t.Ledger where
  held := by rw [pin, mode]; exact l.held
  asleep := by rw [mode, busy]; exact l.asleep
  table := by rw [mode, stationsValid_congr stations]; exact l.table
  empty := by simpa only [mode, State.record, ring] using l.empty
  inUse k := by simpa only [State.inUse, inUse, State.loadedOf, ring] using l.inUse k
  balance k := by simpa only [tallies, State.inUse, inUse] using l.balance k

theorem quiet {C : TripCause → Prop} {s t : State} (l : s.Ledger) (q : Quiet C s t) : t.Ledger := by
  have valid := stationsValid_congr q.stations
  have counts := loadedOf_congr (s := s) (t := t) fun k => ⟨q.state k, (q.grows k).recipe⟩
  have inUse : ∀ k, t.inUse k = t.loadedOf k := fun k => by rw [q.inUse, counts]; exact l.inUse k
  have balance : ∀ k : Fin 8, (t.vu.tallies[k]).admitted = (t.vu.tallies[k]).gone + BitVec.ofNat 32 (t.inUse k) := by
    intro k; rw [q.inUse, q.vu]; exact l.balance k
  rcases q.mode with ⟨mode, -⟩ | ⟨working, trip, -⟩
  · exact ⟨by rw [q.coldResetPin, mode]; exact l.held, by rw [mode, q.busy]; exact l.asleep,
      by rw [mode, valid]; exact l.table, fun rest k => by rw [q.state]; exact l.empty (mode ▸ rest) k, inUse, balance⟩
  · have awake : s.coldResetPin = true → s.nc.mode = .trip := fun pin => by
      have := l.held pin
      simp [State.working, this] at working
    refine ⟨fun pin => ?_, fun wait => by simp [trip] at wait, fun _ => ?_, fun rest => by simp [trip] at rest, inUse,
      balance⟩
    · have := (l.held (q.coldResetPin ▸ pin)).symm.trans (awake (q.coldResetPin ▸ pin))
      cases this
    · rw [valid]
      exact l.table (working.elim .inl (.inr ∘ .inl))

/-- A record that counts for nothing is replaced by another. -/
theorem setRecord {s : State} (l : s.Ledger) {k : Fin 64} {r : Record} (old : (s.record k).state ≠ .loaded)
    (new : r.state = .empty) : (s.setRecord k r).Ledger where
  held := l.held
  asleep := l.asleep
  table := l.table
  empty rest j := by
    rw [record_setRecord]
    split
    · exact new
    · exact l.empty rest j
  inUse j := by
    have moved := loadedOf_setRecord s k r j
    rw [counts_notLoaded old, counts_notLoaded (by simp [new])] at moved
    exact (l.inUse j).trans (by simpa using moved.symm)
  balance := l.balance

/-- One can goes: its LOADED record is replaced, one tally of its slot rises, and the slot's in-use count falls. -/
theorem goes {s t : State} (l : s.Ledger) {k : Fin 64} {r : Record} (loaded : (s.record k).state = .loaded)
    (left : r.state ≠ .loaded) (ring : t.tu.ring = (s.setRecord k r).tu.ring) (pin : t.coldResetPin = s.coldResetPin)
    (mode : t.nc.mode = s.nc.mode) (busy : t.nc.busy = s.nc.busy) (stations : t.tu.stations = s.tu.stations)
    (inUse : ∀ j, t.inUse j = if j = (s.record k).recipe then s.inUse j - 1 else s.inUse j)
    (tallies : ∀ j : Fin 8, (t.vu.tallies[j]).admitted = (s.vu.tallies[j]).admitted ∧ (t.vu.tallies[j]).gone =
      (s.vu.tallies[j]).gone + if j = (s.record k).recipe then 1 else 0) : t.Ledger where
  held := by rw [pin, mode]; exact l.held
  asleep := by rw [mode, busy]; exact l.asleep
  table := by rw [mode, stationsValid_congr stations]; exact l.table
  empty rest := by
    rw [mode] at rest
    have := l.empty rest k
    simp [loaded] at this
  inUse j := by
    have moved := loadedOf_setRecord s k r j
    have same : t.loadedOf j = (s.setRecord k r).loadedOf j := by simp only [State.loadedOf, ring]
    have count := l.inUse j
    have rose := loadedOf_pos loaded
    rw [counts_notLoaded left, counts_loaded loaded] at moved
    rw [inUse, same]
    by_cases own : j = (s.record k).recipe
    · simp only [own, beq_self_eq_true, if_true, Bool.false_eq_true, if_false] at moved rose count ⊢
      omega
    · have other : ((s.record k).recipe == j) = false := by simpa using fun e => own e.symm
      simp only [other, own, Bool.false_eq_true, if_false] at moved ⊢
      omega
  balance j := by
    obtain ⟨admitted, gone⟩ := tallies j
    rw [admitted, gone, inUse, l.balance j]
    by_cases own : j = (s.record k).recipe
    · have rose : 0 < s.inUse j := by rw [l.inUse, own]; exact loadedOf_pos loaded
      obtain ⟨n, count⟩ := Nat.exists_eq_add_of_lt rose
      rw [Nat.zero_add] at count
      rw [if_pos own, if_pos own, count, Nat.add_sub_cancel, BitVec.ofNat_add]
      ac_rfl
    · simp [own]

/-- One can goes by a verdict or a back-out (R95, R32), whatever its record becomes and its request does. -/
theorem accounted {s : State} (l : s.Ledger) {k : Fin 64} {r : Record} {f : Tally → Tally} (q : Option SampleRequest)
    (loaded : (s.record k).state = .loaded) (left : r.state ≠ .loaded) (admitted : ∀ t, (f t).admitted = t.admitted)
    (gone : ∀ t, (f t).gone = t.gone + 1) :
    (rearmIf q (lowerInUse (s.record k).recipe (onTally (s.record k).recipe f (s.setRecord k r)))).Ledger := by
  refine l.goes loaded left ?_ ?_ ?_ ?_ ?_ (fun j => ?_) (fun j => ?_)
  · rw [rearmIf_tu, lowerInUse_tu]; rfl
  · rw [rearmIf_coldResetPin, lowerInUse_coldResetPin]; rfl
  · rw [rearmIf_mode, lowerInUse_nc]; rfl
  · rw [rearmIf_busy, lowerInUse_nc]; rfl
  · rw [rearmIf_tu, lowerInUse_tu]; rfl
  · have used := inUse_lowerInUse (onTally (s.record k).recipe f (s.setRecord k r)) (s.record k).recipe j
    rw [State.inUse, rearmIf_rs]
    refine used.trans ?_
    by_cases own : j = (s.record k).recipe
    · rw [if_pos own, if_pos own, own]; rfl
    · rw [if_neg own, if_neg own]; rfl
  · rw [rearmIf_tallies, lowerInUse_vu, tally_onTally]
    by_cases own : j = (s.record k).recipe
    · rw [if_pos own, if_pos own, own]; exact ⟨admitted _, gone _⟩
    · rw [if_neg own, if_neg own]; exact ⟨rfl, by simp⟩

/-- The verdict of a LOADED record (R95). -/
theorem verdict {s : State} (l : s.Ledger) {k : Fin 64} (loaded : (s.record k).state = .loaded) :
    (giveVerdict k s).Ledger := by
  rw [giveVerdict_eq]
  exact l.accounted _ loaded (by simp [State.judged]) (count_admitted · _) (count_gone · _)

theorem gone_backedOut (t : Tally) : ({ t with backedOut := t.backedOut + 1 } : Tally).gone = t.gone + 1 :=
  (BitVec.add_assoc _ _ _).symm

/-- The back-out of the record at position 0 (R32). -/
theorem backOut {s : State} (l : s.Ledger) : (backOut s).Ledger := by
  unfold Machine.backOut
  dsimp only
  split
  next => exact l
  next final => exact l.setRecord (by simp [final]) rfl
  next loaded => exact l.accounted _ loaded (by decide) (fun _ => rfl) gone_backedOut

/-- The FEED of a can into a slot of the ring that holds no LOADED record (R28, R30). -/
theorem fed {s : State} (l : s.Ledger) (run : s.nc.mode = .run) (φ : Fin 24) (c : Candidate) (p : Fin 16)
    (free : (s.record (s.slotAt 0)).state ≠ .loaded) : (feed φ c p s).Ledger := by
  refine ⟨l.held, l.asleep, l.table, fun rest => ?_, fun j => ?_, fun j => ?_⟩
  · have rest : s.nc.mode = .waitSync ∨ s.nc.mode = .standby := rest
    simp [run] at rest
  · have moved := loadedOf_setRecord s (s.slotAt 0) (s.firstRecord φ c p) j
    rw [counts_notLoaded free, counts_loaded rfl] at moved
    have count := l.inUse j
    rw [feed_inUse, loadedOf_ring (feed_ring φ c p s)]
    by_cases own : j = recipeOf p
    · simp only [own, State.firstRecord, fedRecord, beq_self_eq_true, if_true, Bool.false_eq_true, if_false] at moved count ⊢
      omega
    · have other : (recipeOf p == j) = false := by simpa using fun e => own e.symm
      simp only [State.firstRecord, fedRecord, other, own, Bool.false_eq_true, if_false] at moved ⊢
      omega
  · have balance := l.balance j
    rw [feed_inUse, feed_tallies, tally_onTally]
    by_cases own : j = recipeOf p
    · rw [own] at balance
      rw [if_pos own, if_pos own, own, BitVec.ofNat_add, gone_admitted, ← BitVec.add_assoc]
      exact congrArg (· + 1) balance
    · rw [if_neg own, if_neg own]; exact balance

end State.Ledger

/-! ### The account -/

namespace State.Accounted

theorem ledger {s : State} (a : s.Accounted) : s.Ledger := ⟨a.held, a.asleep, a.table, a.empty, a.inUse, a.balance⟩

theorem of_ledger {s : State} (l : s.Ledger) (below : s.LoadedBelow s.stationJ) (reported : s.nc.ringEmpty = s.allEmpty) :
    s.Accounted := ⟨l.held, l.asleep, l.table, l.empty, below, reported, l.inUse, l.balance⟩

theorem same {s t : State} (a : s.Accounted) (pin : t.coldResetPin = s.coldResetPin) (mode : t.nc.mode = s.nc.mode)
    (busy : t.nc.busy = s.nc.busy) (report : t.nc.ringEmpty = s.nc.ringEmpty) (tu : t.tu = s.tu)
    (inUse : t.rs.inUse = s.rs.inUse) (tallies : t.vu.tallies = s.vu.tallies) : t.Accounted := by
  refine of_ledger (a.ledger.of_same pin mode busy (by rw [tu]) (by rw [tu]) inUse tallies) ?_ ?_
  · simpa only [State.LoadedBelow, State.record, State.position, State.stationJ, tu] using a.beforeGate
  · simpa only [report, State.allEmpty, tu] using a.reported

theorem allEmpty_congr {s t : State} (same : ∀ k, (t.record k).state = (s.record k).state) : t.allEmpty = s.allEmpty := by
  rw [Bool.eq_iff_iff, allEmpty_iff, allEmpty_iff]
  simp only [same]

theorem quiet {C : TripCause → Prop} {s t : State} (a : s.Accounted) (q : Quiet C s t) : t.Accounted := by
  refine of_ledger (a.ledger.quiet q) (fun k loaded => ?_) ?_
  · rw [q.position, State.stationJ, q.stations]
    exact a.beforeGate k (q.state k ▸ loaded)
  · rw [q.ringEmpty, allEmpty_congr q.state]
    exact a.reported

/-- A node that rests with an empty ring, whatever its table and its tallies' slots. -/
theorem of_empty {s : State} (l : s.Ledger) (empty : ∀ k, (s.record k).state = .empty) (report : s.nc.ringEmpty = true) :
    s.Accounted :=
  of_ledger l (fun k loaded => by simp [empty k] at loaded) (by rw [report, (allEmpty_iff s).mpr empty])

/-- The passage to STANDBY of a node whose ring is empty. -/
theorem standby {s : State} (a : s.Accounted) (pin : s.coldResetPin = false) (empty : s.allEmpty = true) :
    (enterStandby s).Accounted := by
  have none := (allEmpty_iff s).mp empty
  refine of_empty ?_ none (a.reported.trans empty)
  have held : (enterStandby s).coldResetPin = false := pin
  exact
    { held := fun e => by simp [held] at e
      asleep := fun wait => nomatch (show Mode.standby = .waitSync from wait)
      table := fun busy => by rcases busy with e | e | e <;> exact nomatch (show Mode.standby = _ from e)
      empty := fun _ => none
      inUse := a.inUse
      balance := a.balance }

theorem pin_of_awake {s : State} (a : s.Accounted) (awake : s.nc.mode ≠ .waitSync) : s.coldResetPin = false := by
  cases pin : s.coldResetPin with
  | false => rfl
  | true => exact absurd (a.held pin) awake

/-! ### Advances -/

/-- The report, and the end of a drain. -/
theorem reportedDrained {s : State} (l : s.Ledger) (below : s.LoadedBelow s.stationJ) :
    (endDrain (reportRing s)).Accounted := by
  have a : (reportRing s).Accounted :=
    of_ledger (l.of_same rfl rfl rfl rfl rfl rfl rfl) below rfl
  unfold endDrain
  split
  next found => exact a.standby (a.pin_of_awake (by rw [found.1]; decide)) found.2
  next => exact a

/-- The record that leaves the track is not LOADED: every LOADED one stands below J, which is at most 62. -/
theorem exit_notLoaded {s : State} (a : s.Accounted) {p : Nat} (late : 62 ≤ p) (track : p < 64) :
    (s.record (s.slotAt p)).state ≠ .loaded := fun loaded => by
  have below := a.beforeGate _ loaded
  have last := (a.ledger.ordered_loaded loaded).last
  rw [position_slotAt s track] at below
  omega

theorem position_exitMoved (s : State) (k : Fin 64) :
    (originForward (exitAtX s)).position k = if s.position k = 63 then 0 else s.position k + 1 :=
  position_originForward s k

/-- The move of a FORWARD advance brings every LOADED record one position on, up to J, and leaves an EMPTY one at 0. -/
theorem moved {s : State} (a : s.Accounted) : (originForward (exitAtX s)).Ledger ∧
    (originForward (exitAtX s)).LoadedBelow (s.stationJ + 1) ∧
    (originForward (exitAtX s)).record ((originForward (exitAtX s)).slotAt 0) = Record.cleared := by
  have left : (exitAtX s).Ledger := a.ledger.setRecord (a.exit_notLoaded (by decide) (by decide)) rfl
  refine ⟨left.of_same rfl rfl rfl rfl rfl rfl rfl, fun k loaded => ?_, ?_⟩
  · rw [originForward_record] at loaded
    have other : k ≠ s.slotAt 63 := by
      rintro rfl
      simp [exitAtX, Record.cleared] at loaded
    rw [exitAtX, record_setRecord_ne other] at loaded
    have below := a.beforeGate k loaded
    rw [position_exitMoved]
    split <;> omega
  · rw [slotAt_originForward_zero, originForward_record]
    exact record_setRecord_self s _ _

theorem admitted {s : State} (l : s.Ledger) {p : Nat} (below : s.LoadedBelow p) (some_place : 0 < p)
    (free : (s.record (s.slotAt 0)).state ≠ .loaded) (φ : Fin 24) :
    (admission φ s).2.Ledger ∧ (admission φ s).2.LoadedBelow p := by
  unfold admission
  split
  next run =>
    split
    next alert _ => cases alert <;> exact ⟨l.of_same rfl rfl rfl rfl rfl rfl rfl, below⟩
    next c q _ =>
      refine ⟨l.fed run φ c q free, fun k loaded => ?_⟩
      have loaded : ((feed φ c q s).record k).state = .loaded := loaded
      show s.position k < p
      rw [feed_record] at loaded
      by_cases own : k = s.slotAt 0
      · rw [own, position_slotAt s (by decide)]; exact some_place
      · rw [if_neg own] at loaded
        exact below k loaded
  next => exact ⟨l, below⟩

theorem giveVerdict_record (k j : Fin 64) (s : State) :
    (giveVerdict k s).record j = if j = k then s.judged k else s.record j := by
  rw [giveVerdict_eq, rearmIf_eq, lowerInUse_eq]
  exact record_setRecord s k j _

theorem giveVerdict_tu (k : Fin 64) (s : State) : (giveVerdict k s).tu = (s.setRecord k (s.judged k)).tu := by
  rw [giveVerdict_eq, rearmIf_eq, lowerInUse_eq]
  rfl

@[simp] theorem giveVerdict_position (k j : Fin 64) (s : State) : (giveVerdict k s).position j = s.position j := by
  simp only [State.position, giveVerdict_tu, setRecord_origin]

@[simp] theorem giveVerdict_stations (k : Fin 64) (s : State) : (giveVerdict k s).tu.stations = s.tu.stations := by
  rw [giveVerdict_tu, setRecord_stations]

@[simp] theorem giveVerdict_stationJ (k : Fin 64) (s : State) : (giveVerdict k s).stationJ = s.stationJ := by
  simp only [State.stationJ, giveVerdict_stations]

/-- The gate takes the LOADED record at J, so that every other stands below it again. -/
theorem gated {s : State} (l : s.Ledger) (below : s.LoadedBelow (s.stationJ + 1)) :
    (gateArrival s).Ledger ∧ (gateArrival s).LoadedBelow (gateArrival s).stationJ := by
  have notThere (absent : ∀ k, (s.record k).state = .loaded → s.position k ≠ s.stationJ) : s.LoadedBelow s.stationJ := by
    intro k loaded
    have upTo := below k loaded
    have away := absent k loaded
    omega
  unfold gateArrival State.slotAtStation
  by_cases track : s.stationJ ≤ 63
  · rw [if_pos track]
    dsimp only
    split
    next loaded =>
      refine ⟨l.verdict loaded, fun k there => ?_⟩
      rw [giveVerdict_record] at there
      split at there
      · simp [State.judged] at there
      next other =>
        rw [eq_slotAt_iff s k (by omega)] at other
        have upTo := below k there
        rw [giveVerdict_position, giveVerdict_stationJ]
        omega
    next other =>
      refine ⟨l, notThere fun k loaded there => other ?_⟩
      rw [← (eq_slotAt_iff s k (by omega)).mpr there]
      exact loaded
  · rw [if_neg track]
    refine ⟨l, notThere fun k loaded there => ?_⟩
    have := position_lt s k
    omega

theorem forward {s : State} (a : s.Accounted) (φ : Fin 24) :
    (forwardAdvance φ s).2.Ledger ∧ (forwardAdvance φ s).2.LoadedBelow (forwardAdvance φ s).2.stationJ := by
  obtain ⟨ledger, below, cleared⟩ := a.moved
  obtain ⟨fedLedger, fedBelow⟩ := admitted ledger below (Nat.succ_pos _) (by rw [cleared]; decide) φ
  have stations : (admission φ (originForward (exitAtX s))).2.tu.stations = s.tu.stations :=
    (fixed_parts ((admission_fixed φ _).trans ((originForward_fixed _).trans (exitAtX_fixed s)))).2.2.2.2.2.2.2.2.1
  have arrived := Quiet.forwardArrivals φ (admission φ (originForward (exitAtX s))).2
  refine gated (fedLedger.quiet arrived) fun k loaded => ?_
  rw [arrived.position, State.stationJ, arrived.stations, stations]
  exact fedBelow k (arrived.state k ▸ loaded)

theorem backOut_ring (s : State) : (backOut s).tu = if (s.record (s.slotAt 0)).state = .empty then s.tu
    else (s.setRecord (s.slotAt 0) Record.cleared).tu := by
  unfold backOut
  dsimp only
  split
  next empty => rw [if_pos empty]
  next final => rw [if_neg (by simp [final])]
  next loaded => rw [if_neg (by simp [loaded]), rearmIf_tu, lowerInUse_tu]; rfl

theorem backedOut_record (s : State) (j : Fin 64) :
    (backOut s).record j = if j = s.slotAt 0 ∧ (s.record (s.slotAt 0)).state ≠ .empty then Record.cleared
      else s.record j := by
  rw [State.record, backOut_ring]
  by_cases empty : (s.record (s.slotAt 0)).state = .empty
  · rw [if_pos empty, if_neg (by simp [empty])]; rfl
  · rw [if_neg empty]
    refine (record_setRecord s (s.slotAt 0) j Record.cleared).trans ?_
    simp [empty]

theorem backOut_tu (s : State) : (backOut s).tu.origin = s.tu.origin ∧ (backOut s).tu.stations = s.tu.stations := by
  rw [backOut_ring]
  split <;> exact ⟨rfl, rfl⟩

/-- An operation of HU moves no record and no station. -/
theorem below_quiet {C : TripCause → Prop} {s t : State} (l : s.Ledger ∧ s.LoadedBelow s.stationJ) (q : Quiet C s t) :
    t.Ledger ∧ t.LoadedBelow t.stationJ := by
  obtain ⟨ledger, below⟩ := l
  refine ⟨ledger.quiet q, fun k loaded => ?_⟩
  rw [q.position, State.stationJ, q.stations]
  exact below k (q.state k ▸ loaded)

/-- The move of a REVERSE advance brings every LOADED record one position back. -/
theorem movedBack {s : State} (a : s.Accounted) :
    (originReverse (backOut s)).Ledger ∧ (originReverse (backOut s)).LoadedBelow (originReverse (backOut s)).stationJ := by
  obtain ⟨origin, stations⟩ := backOut_tu s
  refine ⟨a.ledger.backOut.of_same rfl rfl rfl rfl rfl rfl rfl, fun k loaded => ?_⟩
  rw [State.stationJ, originReverse_stations, stations]
  rw [originReverse_record, backedOut_record] at loaded
  split at loaded
  · exact nomatch (show RecordState.empty = .loaded from loaded)
  next other =>
    have away : k ≠ s.slotAt 0 := by
      rintro rfl
      exact other ⟨rfl, by simp [loaded]⟩
    rw [Ne, eq_slotAt_iff s k (by decide)] at away
    have was := a.beforeGate k loaded
    have same : (backOut s).position k = s.position k := by simp only [State.position, origin]
    rw [position_originReverse, same, if_neg away]
    exact (Nat.sub_le _ _).trans_lt was

theorem reverse {s : State} (a : s.Accounted) :
    (reverseAdvance s).2.Ledger ∧ (reverseAdvance s).2.LoadedBelow (reverseAdvance s).2.stationJ :=
  below_quiet a.movedBack (Quiet.jogBackArrival _)

theorem takeAdvance_forward (φ : Fin 24) (s : State) :
    (takeAdvance .forward φ s).2 = endDrain (reportRing (forwardAdvance φ s).2) := by rw [takeAdvance]

theorem takeAdvance_reverse (φ : Fin 24) (s : State) :
    (takeAdvance .reverse φ s).2 = endDrain (reportRing (reverseAdvance s).2) := by rw [takeAdvance]

theorem takeAdvance_dwell (φ : Fin 24) (s : State) :
    (takeAdvance .dwell φ s).2 = endDrain (reportRing s) := by
  rw [takeAdvance, dwellAdvance]

theorem advance {s : State} (a : s.Accounted) (x : Advance) (φ : Fin 24) : (takeAdvance x φ s).2.Accounted := by
  cases x with
  | forward =>
    rw [takeAdvance_forward]
    exact reportedDrained (a.forward φ).1 (a.forward φ).2
  | reverse =>
    rw [takeAdvance_reverse]
    exact reportedDrained a.reverse.1 a.reverse.2
  | dwell =>
    rw [takeAdvance_dwell]
    exact reportedDrained a.ledger a.beforeGate

/-! ### Requests and the other events -/

theorem served {s t : State} (a : s.Accounted) (pin : s.coldResetPin = false) (request : Served s t) : t.Accounted := by
  have pinned {u : Prop} : s.coldResetPin = true → u := fun e => by rw [pin] at e; cases e
  induction request with
  | stopped hs => exact a.quiet (Quiet.stopHeads hs s)
  | enabled hs => exact a.quiet (Quiet.foldl (C := onlyFull) Quiet.enableHead hs s)
  | disabled hs => exact a.quiet (Quiet.foldl (C := onlyFull) Quiet.disableHead hs s)
  | moved _ _ ih => exact ih.same rfl rfl rfl rfl rfl rfl rfl
  | woken wait =>
    have counted : (restartGap { s with nc.wakeCount := 0 }).Accounted := a.same rfl rfl rfl rfl rfl rfl rfl
    exact counted.standby pin ((allEmpty_iff s).mpr (a.empty (.inl wait)))
  | station table standby =>
    have none := a.empty (.inr standby)
    have l := a.ledger
    refine of_empty (s := { s with tu.stations := table })
      ⟨l.held, l.asleep, fun busy => ?_, l.empty, l.inUse, l.balance⟩ none
      (a.reported.trans ((allEmpty_iff s).mpr none))
    have busy : s.nc.mode = .run ∨ s.nc.mode = .drain ∨ s.nc.mode = .trip := busy
    simp [standby] at busy
  | run idle found =>
    have valid : s.stationsValid = true := by
      rcases found with ⟨-, valid⟩ | drain
      · exact valid
      · exact a.table (.inr (.inl drain))
    exact ⟨pinned, (fun wait => nomatch (show Mode.run = .waitSync from wait)), fun _ => valid,
      (fun rest => by rcases rest with e | e <;> exact nomatch (show Mode.run = _ from e)), a.beforeGate, a.reported,
      a.inUse, a.balance⟩
  | drain found =>
    exact ⟨pinned, (fun wait => nomatch (show Mode.drain = .waitSync from wait)), fun _ => a.table (.inl found),
      (fun rest => by rcases rest with e | e <;> exact nomatch (show Mode.drain = _ from e)), a.beforeGate, a.reported,
      a.inUse, a.balance⟩
  | standby _ empty => exact a.standby pin (a.reported.symm.trans empty)
  | clearTrip _ empty =>
    have cleared : ({ s with nc.tripCause := none } : State).Accounted := a.same rfl rfl rfl rfl rfl rfl rfl
    exact cleared.standby pin (a.reported.symm.trans empty)
  | tallies =>
    have l := a.ledger
    refine of_ledger ⟨l.held, l.asleep, l.table, l.empty, l.inUse, fun k => ?_⟩ a.beforeGate a.reported
    rw [takeTallyClear_eq]
    simp [Tally.gone, State.inUse]
  | clearing target awake =>
    exact ⟨a.held, fun wait => absurd wait awake, a.table, a.empty, a.beforeGate, a.reported, a.inUse, a.balance⟩
  | resetting found =>
    refine ⟨a.held, fun wait => ?_, a.table, a.empty, a.beforeGate, a.reported, a.inUse, a.balance⟩
    rcases found with e | e <;> exact nomatch (wait.symm.trans e)
  | _ => exact a.same rfl rfl rfl rfl rfl rfl rfl

theorem taken {s : State} (a : s.Accounted) (r : Report) : (takeReport s r).Accounted := by
  cases r with
  | infeed => exact a.same rfl rfl rfl rfl rfl rfl rfl
  | event h k lag => exact a.quiet (Quiet.takeEvent h k lag s)
  | flow h n => exact a.quiet (Quiet.takeFlow h n s)
  | measure k ok slot serial v => exact a.quiet (Quiet.takeMeasure k ok slot serial v s)

theorem completeClear {s : State} (a : s.Accounted) : (completeClear s).Accounted := by
  unfold Machine.completeClear
  split
  next target _ _ =>
    split
    · have ended : ({ s with nc.busy := .idle } : State).Accounted :=
        ⟨a.held, fun _ => rfl, a.table, a.empty, a.beforeGate, a.reported, a.inUse, a.balance⟩
      cases target <;> exact ended.same rfl rfl rfl rfl rfl rfl rfl
    · exact a
  all_goals exact a

theorem completeReset {s : State} (a : s.Accounted) : (completeReset s).Accounted := by
  unfold Machine.completeReset
  split
  next since busy =>
    split
    · have awake : s.nc.mode ≠ .waitSync := fun wait => by have := a.asleep wait; simp [busy] at this
      have pin := a.pin_of_awake awake
      have none : ∀ k, ((warmReset s).record k).state = .empty := fun k => by rw [warmReset_record]; rfl
      refine of_empty ⟨?_, ?_, ?_, fun _ => none, fun k => ?_, fun k => ?_⟩ none (by rw [warmReset_eq])
      · intro e; simp [warmReset_eq, pin] at e
      · intro e; simp [warmReset_eq]
      · intro e; simp [warmReset_eq] at e
      · rw [warmReset_inUse, loadedOf_empty none]
      · rw [warmReset_tally, warmReset_inUse]; rfl
    · exact a
  all_goals exact a

theorem reset : State.reset.Accounted := .of_check (by decide +kernel)

theorem release {s : State} (a : s.Accounted) (straps : BitVec 6) : (releasePin straps s).Accounted := by
  unfold releasePin
  split
  next pin =>
    have wait := a.held pin
    refine ⟨fun _ => rfl, fun _ => a.asleep wait, ?_, fun _ => a.empty (.inl wait), a.beforeGate, a.reported, a.inUse,
      a.balance⟩
    rintro (e | e | e) <;> exact nomatch (show Mode.waitSync = _ from e)
  next => exact a

theorem invariant : Invariant State.Accounted where
  link _ _ _ _ _ _ _ _ _ a := a.same rfl rfl rfl rfl rfl rfl rfl
  trip _ s a := a.quiet (Quiet.requestTrip (C := fun _ => True) trivial s)
  advance x φ _ a := a.advance x φ
  report _ r a := a.taken r
  loss s a := (a.same (t := raiseAlert .frameDamaged s) rfl rfl rfl rfl rfl rfl rfl).quiet
    (Quiet.frameLoss (C := onlyFull) _)
  request q s pin a := a.served pin (takeRequest_served q s)
  departs s a := a.quiet (Quiet.departCommands (C := onlyFull) s)
  charge s a := a.quiet (Quiet.nextChargeExpiry s)
  clear _ a := a.completeClear
  reset _ a := a.completeReset
  cold _ _ := reset.same rfl rfl rfl rfl rfl rfl rfl
  release straps _ a := a.release straps

end State.Accounted

/-- Settles O58: the account of the cans is an invariant of every part of an event. -/
theorem stepKeepsAccount : Obligations.StepKeepsAccount :=
  fun _ _ accounted taken => State.Accounted.invariant.step taken accounted

end Sys2Proof.Machine
end

-- ==== Proofs: the requests on the mode, the pointer, the windows, the heads and the alerts ====
section
/-! PROOF. The route of a request from its frame, whatever row names it (R126, R154, R166), and what its owner does: SYNC, POINT,
WRITE, MODE, CLEAR TRIP, RESET NODE, CLEAR WINDOW, HEAD ENABLE and DISABLE, and CLEAR ALERTS. -/

namespace Sys2Proof.Machine

/-! ### The route of a request -/

/-- A request command is the arrival of a SERVICE frame with its code and tag. -/
theorem exec_request {c : Instr} {code : Word} {tag : BitVec 8} (carries : requestOf c = some (code, tag)) (s : State) :
    ∃ o0 o1 o2, exec c s = .next (requestArrival code tag o0 o1 o2 s) := by
  cases c with
  | coldReset | coldResetRelease | indexFrame | reportFrame | carrierFrame | serviceFrame | foreignFrame | unknownFrame
  | damagedFrame | bypassFrame | frameDeparture | frameGapExpiry | chargeLimitExpiry | clearWindowCompletion
  | warmResetCompletion | lineClockTick => cases carries
  | _ => cases carries; exact ⟨_, _, _, rfl⟩

theorem request_sync {f : ServiceFrame} (sync : f.request = .sync) : f.code = 1 := by
  apply BitVec.eq_of_toNat_eq
  unfold ServiceFrame.request at sync
  split at sync
  next code => exact code
  all_goals cases sync

theorem request_status {f : ServiceFrame} (status : f.request = .status) : f.code = 2 := by
  apply BitVec.eq_of_toNat_eq
  unfold ServiceFrame.request at status
  split at status
  case h_2 code => exact code
  all_goals cases status

/-- Settles O33: any code but SYNC's carries a request other than SYNC, and any but STATUS's one other than STATUS. -/
theorem requestsTurnedAway : Obligations.RequestsTurnedAway := by
  intro c code tag s carries
  obtain ⟨o0, o1, o2, arrival⟩ := exec_request carries s
  rw [arrival]
  constructor
  · intro other wait held
    rw [requestArrival_notAwake held wait rfl (fun sync => other (request_sync sync))]
  · intro other awake busy
    rw [requestArrival_busy awake busy rfl (fun status => other (request_status status))]

/-- Only the code, the tag and the request of a frame are read. -/
theorem serviceArrival_congr {f g : ServiceFrame} (code : f.code = g.code) (tag : f.tag = g.tag)
    (request : f.request = g.request) (s : State) : serviceArrival f s = serviceArrival g s := by
  simp only [serviceArrival, replyLead, code, tag, request]

theorem requestArrival_congr {s : State} (held : s.linkHeld = false) {code : Word} {tag : BitVec 8}
    {a b c a' b' c' : Word}
    (request : (s.requestFrame code tag a b c).request = (s.requestFrame code tag a' b' c').request) :
    requestArrival code tag a b c s = requestArrival code tag a' b' c' s := by
  by_cases wait : s.nc.mode = .waitSync
  · rw [requestArrival_wait held wait, requestArrival_wait held wait]
    exact serviceArrival_congr (f := s.requestFrame code tag a b c) (g := s.requestFrame code tag a' b' c') rfl rfl request s
  · have awake : s.bypassed = false := by simp [State.bypassed, held, wait]
    rw [requestArrival_awake awake, requestArrival_awake awake]
    exact serviceArrival_congr (f := s.requestFrame code tag a b c) (g := s.requestFrame code tag a' b' c') rfl rfl request _

/-- A SERVICE frame addressed to the node is the arrival of its request. -/
theorem exec_serviceFrame {f : ServiceFrame} {s : State} (here : f.destination = s.lp.nodeAddress.setWidth 16) :
    exec (.serviceFrame (serviceWords f)) s =
      .next (requestArrival f.code f.tag f.operand0 f.operand1 f.operand2 s) := by
  obtain ⟨destination, code, tag, o0, o1, o2⟩ := f
  cases here
  rfl

theorem requestFrame_eq {f : ServiceFrame} {s : State} (here : f.destination = s.lp.nodeAddress.setWidth 16) :
    s.requestFrame f.code f.tag f.operand0 f.operand1 f.operand2 = f := by
  obtain ⟨destination, code, tag, o0, o1, o2⟩ := f
  cases here
  rfl

/-- A SERVICE frame does what a request row with its code, tag and request does. -/
theorem serviceFrame_row {f : ServiceFrame} {s : State} (here : f.destination = s.lp.nodeAddress.setWidth 16)
    (held : s.linkHeld = false) {c : Instr} {a b d : Word} (row : exec c s = .next (requestArrival f.code f.tag a b d s))
    (request : f.request = (s.requestFrame f.code f.tag a b d).request) :
    exec (.serviceFrame (serviceWords f)) s = exec c s := by
  have same : requestArrival f.code f.tag f.operand0 f.operand1 f.operand2 s = requestArrival f.code f.tag a b d s :=
    requestArrival_congr held (by rw [requestFrame_eq here]; exact request)
  rw [exec_serviceFrame here, row, same]

theorem request_unknown {f : ServiceFrame} (code : f.code = 0 ∨ 19 < f.code.toNat) : f.request = .unknown := by
  have none : f.code.toNat = 0 ∨ 19 < f.code.toNat := code.imp_left fun e => by rw [e]; rfl
  unfold ServiceFrame.request
  split
  case h_20 => rfl
  all_goals omega

theorem request_mode {f : ServiceFrame} (code : f.code = 6) : f.request = .mode (decodeModeAsked f.operand0) := by
  unfold ServiceFrame.request
  rw [code]
  rfl

theorem decodeModeAsked_none {w : Word} (above : 2 < w.toNat) : decodeModeAsked w = none := by
  unfold decodeModeAsked
  split
  case h_4 => rfl
  all_goals omega

/-- Settles O34: the frame is the arrival of its own request, which its code and operands alone decide. -/
theorem serviceFrameTakesRequest : Obligations.ServiceFrameTakesRequest := by
  intro f s here
  have arrival := exec_serviceFrame here
  have carried := requestFrame_eq here
  refine ⟨?row, ?mode, ?unknown, ?badMode, ?notAwake, ?busy⟩
  case row =>
    intro c listed carries held
    obtain ⟨destination, code, tag, o0, o1, o2⟩ := f
    simp only [List.mem_cons, List.not_mem_nil, or_false] at listed
    rcases listed with rfl | rfl | rfl | rfl | rfl | rfl | rfl | rfl | rfl | rfl | rfl | rfl | rfl | rfl | rfl | rfl |
      rfl | rfl
    all_goals cases carries; exact serviceFrame_row here held rfl rfl
  case mode =>
    intro code held
    have asked (o : Word) : (s.requestFrame 6 f.tag o 0 0).request = .mode (decodeModeAsked o) := rfl
    refine ⟨fun operand => ?_, fun operand => ?_, fun operand => ?_⟩
    all_goals
      refine serviceFrame_row (a := f.operand0) (b := 0) (d := 0) here held ?_ ?_
      · rw [code, operand]; rfl
      · rw [request_mode code, code, asked]
  case unknown =>
    intro ready code
    rw [arrival, requestArrival_answered ready (carried ▸ request_unknown code) (x := { status := .badRequest }) rfl]
  case badMode =>
    intro ready code above
    have own : takeOwned (.mode none) (restartGap s) =
      ({ status := .badValue, result0 := BitVec.ofNat 16 s.nc.mode.code }, restartGap s) := rfl
    rw [arrival, requestArrival_answered ready (carried.symm ▸ request_mode code) (decodeModeAsked_none above ▸ own)]
  case notAwake =>
    intro other wait held
    rw [arrival, requestArrival_notAwake held wait rfl (fun sync => other (carried ▸ request_sync sync))]
  case busy =>
    intro other awake busy
    rw [arrival, requestArrival_busy awake busy rfl (fun status => other (carried ▸ request_status status))]

/-! ### SYNC (R141, R142) -/

theorem wakeSync_counts {s : State} (few : s.nc.wakeCount < 2) : wakeSync s =
    ({ status := .syncing, result0 := BitVec.ofNat 16 (s.nc.wakeCount + 1) },
      { s with nc.wakeCount := s.nc.wakeCount + 1 }) := by
  simp [wakeSync, few.ne]

theorem wakeSync_wakes {s : State} (third : s.nc.wakeCount = 2) : wakeSync s =
    ({ status := .done, result0 := 3 }, enterStandby (restartGap { s with nc.wakeCount := 0 })) := by
  simp [wakeSync, third]

theorem exec_sync (tag : BitVec 8) (s : State) : exec (.sync tag) s = .next (requestArrival 1 tag 0 0 0 s) := rfl

theorem requestFrame_sync (s : State) (tag : BitVec 8) : (s.requestFrame 1 tag 0 0 0).request = .sync := rfl

/-- Settles O32: the wake rule by the wake count, and the answer of the SYNC rule out of WAIT_SYNC. -/
theorem syncWakesNode : Obligations.SyncWakesNode := by
  intro tag s held
  rw [exec_sync]
  refine ⟨fun wait few => ?_, fun wait third => ?_, fun ready => ?_⟩
  · rw [requestArrival_wait held wait, serviceArrival, requestFrame_sync, takeRequest_wake wait, wakeSync_counts few]
    rfl
  · rw [requestArrival_wait held wait, serviceArrival, requestFrame_sync, takeRequest_wake wait, wakeSync_wakes third]
    rfl
  · rw [requestArrival_answered ready (requestFrame_sync s tag) (x := { status := .done }) rfl]

/-! ### POINT (R156) -/

theorem decodeWindow_none {w : Word} (above : 9 < w.toNat) : decodeWindow w = none := dif_neg (by omega)

theorem decodeWindow_some {w : Word} {win : Fin 10} (named : w.toNat = win.val) : decodeWindow w = some win := by
  have inside := win.isLt
  rw [decodeWindow, dif_pos (by omega)]
  exact congrArg some (Fin.ext named)

theorem decodeDirection_none {d : Word} (above : 1 < d.toNat) : decodeDirection d = none := by
  unfold decodeDirection
  split
  case h_3 => rfl
  all_goals omega

theorem decodeDirection_some {d : Word} {dir : Direction} (code : d.toNat = dir.code) : decodeDirection d = some dir := by
  unfold decodeDirection
  rw [code]
  cases dir <;> rfl

theorem takePoint_badWindow {w : Word} (above : 9 < w.toNat) (i d : Word) (s : State) :
    takePoint w i d s = ({ status := .badWindow }, s) := by simp [takePoint, decodeWindow_none above, refuse]

theorem takePoint_badIndex {w i : Word} {win : Fin 10} (named : w.toNat = win.val) (beyond : windowLength win ≤ i.toNat)
    (d : Word) (s : State) : takePoint w i d s = ({ status := .badIndex }, s) := by
  simp [takePoint, decodeWindow_some named, beyond.not_gt, refuse]

theorem takePoint_badDirection {w i d : Word} {win : Fin 10} (named : w.toNat = win.val)
    (inside : i.toNat < windowLength win) (above : 1 < d.toNat) (s : State) :
    takePoint w i d s = ({ status := .badValue }, s) := by
  simp [takePoint, decodeWindow_some named, inside, decodeDirection_none above, refuse]

theorem takePoint_sets {w i d : Word} {win : Fin 10} {dir : Direction} (named : w.toNat = win.val)
    (inside : i.toNat < windowLength win) (code : d.toNat = dir.code) (s : State) : takePoint w i d s =
      ({ status := .done, result0 := s.windowWord win i.toNat }, { s with nc := s.pointed ⟨win, i.toNat⟩ dir }) := by
  simp [takePoint, decodeWindow_some named, inside, decodeDirection_some code, setPointer_eq, State.pointed]

theorem exec_point (tag : BitVec 8) (w i d : Word) (s : State) :
    exec (.point tag w i d) s = .next (requestArrival 3 tag w i d s) := rfl

theorem requestFrame_point (s : State) (tag : BitVec 8) (w i d : Word) :
    (s.requestFrame 3 tag w i d).request = .point w i d := rfl

/-- Settles O36: POINT's operands are checked in order, and the place set is the one they name. -/
theorem pointSetsPointer : Obligations.PointSetsPointer := by
  intro tag w i d s ready
  rw [exec_point]
  have carried := requestFrame_point s tag w i d
  refine ⟨fun above => ?_, fun win named => ⟨fun beyond => ?_, fun inside above => ?_, fun dir inside code => ?_⟩⟩
  · rw [requestArrival_answered ready carried (takePoint_badWindow above i d (restartGap s))]
  · rw [requestArrival_answered ready carried (takePoint_badIndex named beyond d (restartGap s))]
  · rw [requestArrival_answered ready carried (takePoint_badDirection named inside above (restartGap s))]
  · have own : takeOwned (.point w i d) (restartGap s) = _ := takePoint_sets named inside code (restartGap s)
    rw [restartGap_windowWord, restartGap_pointed] at own
    rw [requestArrival_ready ready _ _ _ _ _ _ carried, own]
    rfl

/-! ### WRITE (R158) -/

/-- A store leaves NC to the WRITE, which moves the pointer on and sets the stale flag. -/
theorem takeWrite_stored {v : Word} {s u : State} {st : Status} (store : writeWord s.nc.pointer v s = (st, u))
    (taken : st = .done ∨ st = .parked) (keeps : u.nc = s.nc) : takeWrite v s =
      ({ status := st, result0 := pointerWord s.nextPointer s.nc.direction }, { u with nc := s.wrote }) := by
  simp only [takeWrite, store, if_pos taken, keeps]
  rfl

theorem takeWrite_refused {v : Word} {s u : State} {st : Status} (store : writeWord s.nc.pointer v s = (st, u))
    (refused : ¬ (st = .done ∨ st = .parked)) : takeWrite v s =
      ({ status := st, result0 := pointerWord u.nc.pointer u.nc.direction }, u) := by
  simp only [takeWrite, store, if_neg refused]

theorem exec_write (tag : BitVec 8) (v : Word) (s : State) :
    exec (.write tag v) s = .next (requestArrival 5 tag v 0 0 s) := rfl

theorem requestFrame_write (s : State) (tag : BitVec 8) (v : Word) : (s.requestFrame 5 tag v 0 0).request = .write v := rfl

theorem exec_write_stored {tag : BitVec 8} {v : Word} {s u : State} {st : Status} (ready : s.ready)
    (store : writeWord s.nc.pointer v (restartGap s) = (st, u)) (taken : st = .done ∨ st = .parked)
    (keeps : u.nc = s.nc) : exec (.write tag v) s = .next (putTransit
      (s.replyFrame 5 tag { status := st, result0 := pointerWord s.nextPointer s.nc.direction })
      { u with nc := s.wrote }) := by
  have own : takeOwned (.write v) (restartGap s) = _ := takeWrite_stored (s := restartGap s) store taken keeps
  rw [exec_write, requestArrival_ready ready _ _ _ _ _ _ (requestFrame_write s tag v), own]
  rfl

theorem exec_write_refused {tag : BitVec 8} {v : Word} {s : State} {st : Status} (ready : s.ready)
    (store : writeWord s.nc.pointer v (restartGap s) = (st, restartGap s)) (refused : ¬ (st = .done ∨ st = .parked)) :
    exec (.write tag v) s =
      .next (s.answered 5 tag { status := st, result0 := pointerWord s.nc.pointer s.nc.direction }) := by
  have own : takeOwned (.write v) (restartGap s) = _ := takeWrite_refused (s := restartGap s) store refused
  rw [exec_write, requestArrival_answered ready (requestFrame_write s tag v) own]
  rfl

theorem writeWord_readOnly {p : Pointer} (beyond : 4 ≤ p.window.val) (v : Word) (s : State) :
    writeWord p v s = (.readOnly, s) := by
  obtain ⟨w, i⟩ := p
  match w, beyond with
  | 4, _ | 5, _ | 6, _ | 7, _ | 8, _ | 9, _ => rfl

/-- Settles O40: the store or the refusal at the pointer's word, carried to the command. -/
theorem writeStoresOrRefuses : Obligations.WriteStoresOrRefuses := by
  intro tag v s ready yes no refused hyes hno hrefused
  subst hyes hno
  refine ⟨?gap, ?badGap, ?rows, ?badRows, ?node, ?station, ?badStation, ?bound, ?factor, ?badFactor, ?rest⟩
  case gap =>
    intro place low high
    exact exec_write_stored ready (u := { restartGap s with lp.gapLimit := v })
      (by simp [place, writeWord, writeNode, gapLimitRange, low, high]) (.inl rfl) rfl
  case badGap =>
    intro place range
    rw [hrefused]
    exact exec_write_refused ready (by simp [place, writeWord, writeNode, gapLimitRange, range]) (by decide)
  case rows =>
    intro place high
    exact exec_write_stored ready (u := { restartGap s with hu.trimRows := v })
      (by simp [place, writeWord, writeNode, trimRowsRange, high]) (.inl rfl) rfl
  case badRows =>
    intro place above
    rw [hrefused]
    exact exec_write_refused ready (by simp [place, writeWord, writeNode, trimRowsRange, above]) (by decide)
  case node =>
    intro window notGap notRows
    rw [hrefused]
    exact exec_write_refused ready (by simp [writeWord, window, writeNode, notGap, notRows]) (by decide)
  case station =>
    intro i place standby
    exact exec_write_stored ready (u := { restartGap s with tu.stations := s.tu.stations.set i v })
      (by simp [place, writeWord, writeStations, standby]) (.inl rfl) rfl
  case badStation =>
    intro window awake
    rw [hrefused]
    exact exec_write_refused ready (by simp [writeWord, window, writeStations, awake]) (by decide)
  case bound =>
    intro r place
    have row : (2 * r.val) / 2 = r.val := by omega
    exact exec_write_stored ready
      (u := { restartGap s with hu.trim := s.hu.trim.set r { s.hu.trim[r] with bound := v } })
      (by simp [place, writeWord, writeTrim]) (.inl rfl) rfl
  case factor =>
    intro r place low high
    have row : (2 * r.val + 1) / 2 = r.val := by omega
    exact exec_write_stored ready
      (u := { restartGap s with hu.trim := s.hu.trim.set r { s.hu.trim[r] with factor := v } })
      (by simp [place, writeWord, writeTrim, row, factorRange, low, high]) (.inl rfl) rfl
  case badFactor =>
    intro r place range
    have row : (2 * r.val + 1) / 2 = r.val := by omega
    rw [hrefused]
    exact exec_write_refused ready (by simp [place, writeWord, writeTrim, factorRange, range]) (by decide)
  case rest =>
    intro beyond
    rw [hrefused]
    exact exec_write_refused ready (writeWord_readOnly beyond v _) (by decide)

/-! ### WRITE into the recipe window (R110) -/

theorem recipeWordIndex_eq (k : Fin 8) (w : Fin 16) : recipeWordIndex (16 * k.val + w.val) = (k, w) := by
  have slot : (16 * k.val + w.val) / 16 = k.val := by omega
  have word : (16 * k.val + w.val) % 16 = w.val := by omega
  rw [recipeWordIndex, slot, word]
  simp

theorem closing_eq_false {s : State} {k : Fin 8} : s.closing k = false ↔ ∀ e ∈ s.rs.parkList, e.slot ≠ k := by
  simp [State.closing]

theorem writeRecipe_eq (k : Fin 8) (w : Fin 16) (v : Word) (s : State) :
    writeWord ⟨3, 16 * k.val + w.val⟩ v s =
      if recipeRange w v.toNat = false then (.badValue, s)
      else if s.rs.scope = none ∧ s.inUse k = 0 ∧ s.closing k = false then
        (.done, { s with rs.words := s.rs.words.set (recipeIndex k w) v })
      else if 16 ≤ s.rs.parkList.length then (.parkFull, raiseAlert .parkFull s)
      else (.parked, { s with rs.parkList := s.rs.parkList ++ [⟨k, w, v⟩] }) := by
  show writeRecipe _ v s = _
  unfold writeRecipe
  rw [recipeWordIndex_eq]
  rfl

theorem parks_of {s : State} {k : Fin 8} (held : s.rs.scope ≠ none ∨ s.inUse k ≠ 0 ∨ ∃ e ∈ s.rs.parkList, e.slot = k) :
    ¬ (s.rs.scope = none ∧ s.inUse k = 0 ∧ s.closing k = false) := by
  rintro ⟨outside, free, closed⟩
  rcases held with h | h | ⟨e, mem, slot⟩
  · exact h outside
  · exact h free
  · exact closing_eq_false.mp closed e mem slot

/-- Settles O41: the four outcomes of a WRITE into a recipe word in the order of R110, and the ranges as they are listed. -/
theorem recipeWriteOrParks : Obligations.RecipeWriteOrParks := by
  refine ⟨fun k w s => ⟨rfl, rfl⟩, fun v => ?_, fun tag v k w s ready place => ⟨fun bad => ?_, fun good outside free open_ => ?_,
    fun good held => ⟨fun full => ?_, fun room => ?_⟩⟩⟩
  · simp [recipeRange]
  · refine exec_write_refused ready ?_ (by decide)
    rw [place, writeRecipe_eq, if_pos bad]
  · have stored := exec_write_stored (tag := tag) ready (v := v) (st := .done)
      (u := { restartGap s with rs.words := s.rs.words.set (recipeIndex k w) v }) ?_ (.inl rfl) rfl
    · exact stored
    · have direct : (restartGap s).rs.scope = none ∧ (restartGap s).inUse k = 0 ∧ (restartGap s).closing k = false :=
        ⟨outside, free, closing_eq_false.mpr open_⟩
      rw [place, writeRecipe_eq, if_neg (by simp [good]), if_pos direct]
      rfl
  · have parks := parks_of (s := restartGap s) held
    have store : writeWord s.nc.pointer v (restartGap s) = (.parkFull, raiseAlert .parkFull (restartGap s)) := by
      rw [place, writeRecipe_eq, if_neg (by simp [good]), if_neg parks]
      exact if_pos full
    have own : takeOwned (.write v) (restartGap s) = _ := takeWrite_refused (s := restartGap s) store (by decide)
    rw [exec_write, requestArrival_ready ready _ _ _ _ _ _ (requestFrame_write s tag v), own]
    rfl
  · have parks := parks_of (s := restartGap s) held
    refine exec_write_stored ready (u := { restartGap s with rs.parkList := s.rs.parkList ++ [⟨k, w, v⟩] }) ?_
      (.inr rfl) rfl
    rw [place, writeRecipe_eq, if_neg (by simp [good]), if_neg parks]
    exact if_neg room.not_ge

end Sys2Proof.Machine
end

-- ==== Proofs: MODE, CLEAR TRIP, the busy operations, HEAD ENABLE and DISABLE, CLEAR ALERTS ====
section
/-! PROOF. What the requests on the mode (R143, R150), on the busy operations (R151, R160, R161), on the enabled flags of the
heads (R51 to R53) and on the alert set (R162) do. -/

namespace Sys2Proof.Machine

/-! ### MODE and CLEAR TRIP -/

theorem exec_mode (tag : BitVec 8) (s : State) :
    exec (.modeRun tag) s = .next (requestArrival 6 tag 1 0 0 s) ∧
      exec (.modeDrain tag) s = .next (requestArrival 6 tag 2 0 0 s) ∧
      exec (.modeStandby tag) s = .next (requestArrival 6 tag 0 0 0 s) := ⟨rfl, rfl, rfl⟩

/-- What the owner of a request leaves beside its answer, put into the arrival. -/
theorem requestArrival_leaves {s : State} (ready : s.ready) {code : Word} {tag : BitVec 8} {a b c : Word} {q : Request}
    (carried : (s.requestFrame code tag a b c).request = q) {x : Answer} {u : State}
    (own : takeOwned q (restartGap s) = (x, u)) :
    requestArrival code tag a b c s = putTransit (s.replyFrame code tag x) u := by
  rw [requestArrival_ready ready code tag a b c q carried, own]

/-- The change of the mode alone, with the mode after in the answer. -/
theorem mode_after {s : State} (ready : s.ready) {tag : BitVec 8} {o : Word} {asked : Option ModeAsked} {st : Status}
    {m : Mode} (carried : (s.requestFrame 6 tag o 0 0).request = .mode asked)
    (own : takeMode asked (restartGap s) = modeAnswer st { restartGap s with nc.mode := m }) :
    requestArrival 6 tag o 0 0 s =
      { s.answered 6 tag { status := st, result0 := BitVec.ofNat 16 m.code } with nc.mode := m } := by
  rw [requestArrival_leaves ready carried (x := { status := st, result0 := BitVec.ofNat 16 m.code })
    (u := { restartGap s with nc.mode := m }) own]
  rfl

theorem mode_self {s : State} {m : Mode} (found : s.nc.mode = m) : restartGap s = { restartGap s with nc.mode := m } := by
  rw [← found]
  rfl

theorem stationsValid_iff (s : State) : s.stationsValid = true ↔ (1 ≤ s.stationE ∧ s.stationE ≤ s.stationG ∧
    s.stationG < s.stationC ∧ s.stationC < s.stationR ∧ s.stationR < s.stationK ∧ s.stationK ≤ s.stationW ∧
    s.stationW < s.stationJ ∧ s.stationJ ≤ 62 ∧ s.stationR - s.stationE ≤ 23) := decide_eq_true_iff

theorem restartGap_stationsValid (s : State) : (restartGap s).stationsValid = s.stationsValid := rfl

/-- Entry to STANDBY by a request, with the mode after in the answer. -/
theorem standby_after {s : State} (ready : s.ready) {tag : BitVec 8} {x : Answer} {q : Request} {code o : Word}
    {cause : Option TripCause} (carried : (s.requestFrame code tag o 0 0).request = q)
    (own : takeOwned q (restartGap s) = (x, enterStandby { restartGap s with nc.tripCause := cause })) :
    requestArrival code tag o 0 0 s = { s.answered code tag x with
      nc := { s.nc with mode := .standby, tripCause := cause }, rs := s.rs.applyParked (fun _ => true) } := by
  rw [requestArrival_leaves ready carried own]
  rfl

theorem takeModeStandby_empty {s : State} (found : s.working) (empty : s.nc.ringEmpty = true) :
    takeModeStandby s = modeAnswer .done (enterStandby s) := by
  rcases found with found | found <;> simp only [takeModeStandby, found, empty, if_true]

/-- Settles O42: each request by the mode found; the restart of the frame gap timer at the arrival leaves what it reads. -/
theorem modeChangesByRequest : Obligations.ModeChangesByRequest := by
  refine ⟨fun tag s ready after form => ?_, fun E G C R K W J s table => ?_⟩
  · obtain ⟨run, drain, standby⟩ := exec_mode tag s
    have clear : exec (.clearTrip tag) s = .next (requestArrival 16 tag 0 0 0 s) := rfl
    have carriedStandby : (s.requestFrame 6 tag 0 0 0).request = .mode (some .standby) := rfl
    have carriedClear : (s.requestFrame 16 tag 0 0 0).request = .clearTrip := rfl
    have runs {st : Status} {m : Mode} (own : takeModeRun (restartGap s) = modeAnswer st { restartGap s with nc.mode := m }) :
        exec (.modeRun tag) s = .next (after st m) := by
      rw [run, form, mode_after ready (asked := some .run) rfl own]
    have drains {st : Status} {m : Mode}
        (own : takeModeDrain (restartGap s) = modeAnswer st { restartGap s with nc.mode := m }) :
        exec (.modeDrain tag) s = .next (after st m) := by
      rw [drain, form, mode_after ready (asked := some .drain) rfl own]
    have rests {st : Status} {m : Mode}
        (own : takeModeStandby (restartGap s) = modeAnswer st { restartGap s with nc.mode := m }) :
        exec (.modeStandby tag) s = .next (after st m) := by
      rw [standby, form, mode_after ready (asked := some .standby) rfl own]
    refine ⟨?runs, ?badTable, ?runAgain, ?runTrip, ?drains, ?badDrain, ?rests, ?notEmpty, ?restsAgain, ?restTrip, ?clears,
      ?clearNotEmpty, ?badClear⟩
    case runs => exact fun found valid => runs (by simp [takeModeRun, found, restartGap_stationsValid, valid])
    case badTable =>
      intro found bad
      refine runs ?_
      rw [← mode_self found]
      simp [takeModeRun, found, restartGap_stationsValid, bad]
    case runAgain =>
      rintro (found | found)
      · refine runs ?_
        rw [← mode_self found]
        simp [takeModeRun, found]
      · exact runs (by simp [takeModeRun, found])
    case runTrip =>
      intro found
      refine runs ?_
      rw [← mode_self found]
      simp [takeModeRun, found]
    case drains => exact fun found => drains (by simp [takeModeDrain, found])
    case badDrain =>
      intro other
      refine drains ?_
      rw [← mode_self rfl]
      simp [takeModeDrain, other]
    case rests =>
      intro found empty
      have own : takeOwned (.mode (some .standby)) (restartGap s) =
          ({ status := .done, result0 := BitVec.ofNat 16 Mode.standby.code },
            enterStandby { restartGap s with nc.tripCause := s.nc.tripCause }) := by
        show takeModeStandby (restartGap s) = _
        rw [takeModeStandby_empty (s := restartGap s) found empty]
        rfl
      rw [standby, form, standby_after ready carriedStandby own]
      rfl
    case notEmpty =>
      intro found full
      refine rests ?_
      rw [← mode_self rfl]
      rcases found with found | found <;> simp [takeModeStandby, found, full]
    case restsAgain =>
      intro found
      refine rests ?_
      rw [← mode_self found]
      simp [takeModeStandby, found]
    case restTrip =>
      intro found
      refine rests ?_
      rw [← mode_self found]
      simp [takeModeStandby, found]
    case clears =>
      intro found empty
      have own : takeOwned .clearTrip (restartGap s) =
          ({ status := .done }, enterStandby { restartGap s with nc.tripCause := none }) := by
        show takeClearTrip (restartGap s) = _
        simp [takeClearTrip, found, empty]
      rw [clear, standby_after ready carriedClear own]
    case clearNotEmpty =>
      intro found full
      have own : takeOwned .clearTrip (restartGap s) = ({ status := .notEmpty }, restartGap s) := by
        show takeClearTrip (restartGap s) = _
        simp [takeClearTrip, found, full, refuse]
      rw [clear, requestArrival_answered ready carriedClear own]
    case badClear =>
      intro other
      have own : takeOwned .clearTrip (restartGap s) = ({ status := .refusedMode }, restartGap s) := by
        show takeClearTrip (restartGap s) = _
        simp [takeClearTrip, other, refuse]
      rw [clear, requestArrival_answered ready carriedClear own]
  · rw [stationsValid_iff]
    simp [State.stationE, State.stationG, State.stationC, State.stationR, State.stationK, State.stationW, State.stationJ,
      table]

/-! ### The busy operations (R151, R160, R161) -/

theorem takeClearWindow_accepts {w : Word} {win : Fin 10} {target : ClearTarget} {s : State}
    (named : w.toNat = win.val) (clears : clearTarget win = some target)
    (legal : target = .recipe → s.nc.mode = .standby) : takeClearWindow w s =
      ({ status := .accepted, result0 := w }, { s with nc.busy := .clearWindow target s.clock }) := by
  have allowed : ¬ (target = .recipe ∧ s.nc.mode ≠ .standby) := fun bad => bad.2 (legal bad.1)
  simp only [takeClearWindow, decodeWindow_some named, clears, if_neg allowed]

theorem takeClearWindow_readOnly {w : Word} {win : Fin 10} (named : w.toNat = win.val) (fixed : clearTarget win = none)
    (s : State) : takeClearWindow w s = ({ status := .readOnly }, s) := by
  simp [takeClearWindow, decodeWindow_some named, fixed, refuse]

theorem takeClearWindow_badMode {w : Word} {win : Fin 10} {s : State} (named : decodeWindow w = some win)
    (recipe : clearTarget win = some .recipe) (other : s.nc.mode ≠ .standby) :
    takeClearWindow w s = ({ status := .refusedMode }, s) := by
  simp only [takeClearWindow, named, recipe]
  rw [if_pos ⟨trivial, other⟩]
  rfl

theorem completeClear_due {s : State} {since : Clock} {target : ClearTarget} (busy : s.nc.busy = .clearWindow target since)
    (due : 1000 ≤ (s.clock - since).toNat) : completeClear s = clearContent target { s with nc.busy := .idle } := by
  have reached : s.reached since Config.clearWindowTicks = true := (reached_iff s since _).mpr due
  simp [completeClear, busy, reached]

theorem completeClear_early {s : State} {since : Clock} {target : ClearTarget}
    (busy : s.nc.busy = .clearWindow target since) (early : (s.clock - since).toNat < 1000) : completeClear s = s := by
  have reached : ¬ s.reached since Config.clearWindowTicks = true := fun r => early.not_ge ((reached_iff s since _).mp r)
  simp [completeClear, busy, reached]

theorem completeReset_early {s : State} {since : Clock} (busy : s.nc.busy = .resetNode since)
    (early : (s.clock - since).toNat < 2000) : completeReset s = s := by
  have reached : ¬ s.reached since Config.resetNodeTicks = true := fun r => early.not_ge ((reached_iff s since _).mp r)
  simp [completeReset, busy, reached]

/-- Settles O43: the owners of the two requests, and the completion by its busy operation and its tick. -/
theorem busyOperations : Obligations.BusyOperations := by
  refine ⟨fun tag w s ready => ?_, fun s since => ?_⟩
  · have reset : exec (.resetNode tag) s = .next (requestArrival 19 tag 0 0 0 s) := rfl
    have clear : exec (.clearWindow tag w) s = .next (requestArrival 17 tag w 0 0 s) := rfl
    have carriedReset : (s.requestFrame 19 tag 0 0 0).request = .resetNode := rfl
    have carriedClear : (s.requestFrame 17 tag w 0 0).request = .clearWindow w := rfl
    refine ⟨?resets, ?badReset, ?badWindow, ?readOnly, ?badMode, ?clears⟩
    case resets =>
      intro found
      have own : takeOwned .resetNode (restartGap s) =
          ({ status := .accepted }, { restartGap s with nc.busy := .resetNode s.clock }) := by
        show takeResetNode (restartGap s) = _
        simp [takeResetNode, found]
      rw [reset, requestArrival_leaves ready carriedReset own]
      rfl
    case badReset =>
      intro found
      have own : takeOwned .resetNode (restartGap s) = ({ status := .refusedMode }, restartGap s) := by
        show takeResetNode (restartGap s) = _
        rcases found with found | found <;> simp [takeResetNode, found, refuse]
      rw [reset, requestArrival_answered ready carriedReset own]
    case badWindow =>
      intro above
      have own : takeOwned (.clearWindow w) (restartGap s) = ({ status := .badWindow }, restartGap s) := by
        show takeClearWindow w (restartGap s) = _
        simp [takeClearWindow, decodeWindow_none above, refuse]
      rw [clear, requestArrival_answered ready carriedClear own]
    case readOnly =>
      intro listed
      have inside : w.toNat < 10 := by
        simp only [List.mem_cons, List.not_mem_nil, or_false] at listed
        omega
      have fixed : clearTarget ⟨w.toNat, inside⟩ = none := by
        generalize w.toNat = n at listed inside
        simp only [List.mem_cons, List.not_mem_nil, or_false] at listed
        rcases listed with rfl | rfl | rfl | rfl | rfl | rfl | rfl <;> rfl
      have own : takeOwned (.clearWindow w) (restartGap s) = ({ status := .readOnly }, restartGap s) :=
        takeClearWindow_readOnly (win := ⟨w.toNat, inside⟩) rfl fixed _
      rw [clear, requestArrival_answered ready carriedClear own]
    case badMode =>
      rintro rfl other
      have own : takeOwned (.clearWindow 3) (restartGap s) = ({ status := .refusedMode }, restartGap s) := by
        have named : decodeWindow 3 = some 3 := rfl
        exact takeClearWindow_badMode (s := restartGap s) named rfl other
      rw [clear, requestArrival_answered ready carriedClear own]
    case clears =>
      intro target found
      have own : takeOwned (.clearWindow w) (restartGap s) =
          ({ status := .accepted, result0 := w }, { restartGap s with nc.busy := .clearWindow target s.clock }) := by
        rcases found with ⟨rfl, rfl⟩ | ⟨rfl, standby, rfl⟩ | ⟨rfl, rfl⟩
        · exact takeClearWindow_accepts (w := 2) (win := 2) (s := restartGap s) rfl rfl nofun
        · exact takeClearWindow_accepts (w := 3) (win := 3) (s := restartGap s) rfl rfl (fun _ => standby)
        · exact takeClearWindow_accepts (w := 9) (win := 9) (s := restartGap s) rfl rfl nofun
      rw [clear, requestArrival_leaves ready carriedClear own]
      rfl
  · have clear : exec .clearWindowCompletion s = .next (completeClear s) := rfl
    have reset : exec .warmResetCompletion s = .next (completeReset s) := rfl
    rw [clear, reset]
    refine ⟨fun due => ⟨fun busy => ?_, fun busy => ?_, fun busy => ?_⟩, fun target busy early => ?_, fun none => ?_,
      fun busy early => ?_, fun none => ?_⟩
    · rw [completeClear_due busy due]; rfl
    · rw [completeClear_due busy due]; rfl
    · rw [completeClear_due busy due]; rfl
    · rw [completeClear_early busy early]
    · cases busy : s.nc.busy with
      | clearWindow target start => exact absurd busy (none target start)
      | _ => simp [completeClear, busy]
    · rw [completeReset_early busy early]
    · cases busy : s.nc.busy with
      | resetNode start => exact absurd busy (none start)
      | _ => simp [completeReset, busy]

/-! ### HEAD ENABLE and HEAD DISABLE (R51 to R53) -/

/-- The state with every named head's context replaced. -/
def State.eachHead (s : State) (hs : List (Fin 24)) (f : HeadContext → HeadContext) : State :=
  { s with hu.heads := Vector.ofFn (fun h => if h ∈ hs then f (s.head h) else s.head h) }

theorem head_eachHead (s : State) (hs : List (Fin 24)) (f : HeadContext → HeadContext) (h : Fin 24) :
    (s.eachHead hs f).head h = if h ∈ hs then f (s.head h) else s.head h := by
  simp [State.eachHead, State.head]

/-- Two states that differ in the heads alone are equal when each head is. -/
theorem eq_of_heads {s t : State} (rest : t = { s with hu.heads := t.hu.heads }) (heads : ∀ h, t.head h = s.head h) :
    t = s := by
  have same : t.hu.heads = s.hu.heads := by
    apply Vector.ext
    intro i inside
    exact heads ⟨i, inside⟩
  rw [rest, same]

/-- A change of one head that does no more the second time, made on each named head in turn. -/
theorem foldl_heads {f : HeadContext → HeadContext} (again : ∀ c, f (f c) = f c) {g : State → Fin 24 → State}
    (one : ∀ s h, g s h = s.setHead h (f (s.head h))) (hs : List (Fin 24)) (s : State) :
    hs.foldl g s = s.eachHead hs f := by
  induction hs generalizing s with
  | nil => exact (eq_of_heads rfl fun h => by simp [head_eachHead]).symm
  | cons a as ih =>
    rw [List.foldl_cons, ih, one]
    refine eq_of_heads rfl fun h => ?_
    rw [head_eachHead, head_eachHead, head_setHead]
    by_cases own : h = a
    · subst own
      by_cases later : h ∈ as <;> simp [later, again]
    · simp [own]

/-- A head after HEAD ENABLE (R52). -/
def HeadContext.enable (c : HeadContext) : HeadContext :=
  { c with enabled := true, state := if c.state = .disabled ∨ c.state = .faulted then .idle else c.state }

/-- A head after HEAD DISABLE (R53). -/
def HeadContext.disable (c : HeadContext) : HeadContext :=
  { c with enabled := false, state := if c.state = .idle then .disabled else c.state }

theorem enable_enable (c : HeadContext) : c.enable.enable = c.enable := by
  by_cases out : c.state = .disabled ∨ c.state = .faulted <;> simp [HeadContext.enable, out]

theorem disable_disable (c : HeadContext) : c.disable.disable = c.disable := by
  by_cases idle : c.state = .idle <;> simp [HeadContext.disable, idle]

theorem takeHeadEnable_named {sel v1 v2 : Word} {hs : List (Fin 24)} (named : selectHeads sel v1 v2 = some hs)
    (s : State) : takeHeadEnable sel v1 v2 s =
      ({ status := .done, result0 := BitVec.ofNat 16 hs.length }, s.eachHead hs HeadContext.enable) := by
  have each : hs.foldl enableHead s = s.eachHead hs HeadContext.enable :=
    foldl_heads enable_enable (fun _ _ => rfl) hs s
  simp only [takeHeadEnable, named, each]
  rfl

theorem takeHeadDisable_named {sel v1 v2 : Word} {hs : List (Fin 24)} (named : selectHeads sel v1 v2 = some hs)
    (s : State) : takeHeadDisable sel v1 v2 s =
      ({ status := .done, result0 := BitVec.ofNat 16 hs.length }, s.eachHead hs HeadContext.disable) := by
  have each : hs.foldl disableHead s = s.eachHead hs HeadContext.disable :=
    foldl_heads disable_disable (fun _ _ => rfl) hs s
  simp only [takeHeadDisable, named, each]
  rfl

theorem exec_heads (tag : BitVec 8) (sel v1 v2 : Word) (s : State) :
    exec (.headEnable tag sel v1 v2) s = .next (requestArrival 7 tag sel v1 v2 s) ∧
      exec (.headDisable tag sel v1 v2) s = .next (requestArrival 8 tag sel v1 v2 s) ∧
      exec (.headStop tag sel v1 v2) s = .next (requestArrival 9 tag sel v1 v2 s) := ⟨rfl, rfl, rfl⟩

theorem requestFrame_heads (s : State) (tag : BitVec 8) (sel v1 v2 : Word) :
    (s.requestFrame 7 tag sel v1 v2).request = .headEnable sel v1 v2 ∧
      (s.requestFrame 8 tag sel v1 v2).request = .headDisable sel v1 v2 ∧
      (s.requestFrame 9 tag sel v1 v2).request = .headStop sel v1 v2 := ⟨rfl, rfl, rfl⟩

theorem finRange_filter_ordered (p : Fin 24 → Bool) : ((List.finRange 24).filter p).Pairwise (· < ·) :=
  (List.pairwise_lt_finRange 24).filter p

/-- Settles O45: the named heads, each changed once, and the lists that the three selectors name. -/
theorem headEnableAndDisable : Obligations.HeadEnableAndDisable := by
  refine ⟨fun tag sel v1 v2 s ready => ?_, fun sel v1 v2 => ⟨?one, ?first, ?set, ?other⟩⟩
  · obtain ⟨enables, disables, stops⟩ := exec_heads tag sel v1 v2 s
    obtain ⟨carriedEnable, carriedDisable, carriedStop⟩ := requestFrame_heads s tag sel v1 v2
    refine ⟨fun hs named => ⟨?_, ?_⟩, fun none => ⟨?_, ?_, ?_⟩⟩
    · rw [enables, requestArrival_leaves ready carriedEnable (takeHeadEnable_named named (restartGap s))]
      rfl
    · rw [disables, requestArrival_leaves ready carriedDisable (takeHeadDisable_named named (restartGap s))]
      rfl
    · have own : takeOwned (.headEnable sel v1 v2) (restartGap s) = ({ status := .badValue }, restartGap s) := by
        simp [takeOwned, takeHeadEnable, none, refuse]
      rw [enables, requestArrival_answered ready carriedEnable own]
    · have own : takeOwned (.headDisable sel v1 v2) (restartGap s) = ({ status := .badValue }, restartGap s) := by
        simp [takeOwned, takeHeadDisable, none, refuse]
      rw [disables, requestArrival_answered ready carriedDisable own]
    · have own : takeOwned (.headStop sel v1 v2) (restartGap s) = ({ status := .badValue }, restartGap s) := by
        simp [takeOwned, takeHeadStop, none, refuse]
      rw [stops, requestArrival_answered ready carriedStop own]
  case one =>
    rintro rfl
    refine ⟨fun h number => ?_, fun above => ?_⟩
    · simp [selectHeads, decodeHead, number]
    · simp [selectHeads, decodeHead, above.not_ge, Nat.lt_succ_iff]
  case first =>
    rintro rfl
    refine ⟨fun few => ⟨_, if_pos few, finRange_filter_ordered _, fun h => by simp⟩, fun many => if_neg many.not_ge⟩
  case set =>
    rintro rfl
    refine ⟨fun some_bit fits => ⟨_, if_pos ⟨fits, some_bit⟩, finRange_filter_ordered _, fun h => ?_⟩, fun bad => ?_⟩
    · rw [BitVec.getLsbD_append]
      simp only [List.mem_filter, List.mem_finRange, true_and]
    · refine if_neg ?_
      rintro ⟨fits, some_bit⟩
      rcases bad with ⟨rfl, rfl⟩ | large
      · simp at some_bit
      · omega
  case other =>
    intro above
    unfold selectHeads
    split
    case h_4 => rfl
    all_goals omega

/-! ### CLEAR ALERTS (R162) -/

theorem takeClearAlerts_bad {kinds : Word} (sixteenth : kinds.getLsbD 15 = true) (s : State) :
    takeClearAlerts kinds s = ({ status := .badValue }, s) := by simp only [takeClearAlerts, sixteenth, if_true, refuse]

theorem takeClearAlerts_clears {kinds : Word} (fits : kinds.getLsbD 15 = false) (s : State) :
    takeClearAlerts kinds s = ({ status := .done, result0 := (s.nc.alerts &&& ~~~(kinds.setWidth 15)).setWidth 16 },
      { s with nc.alerts := s.nc.alerts &&& ~~~(kinds.setWidth 15) }) := by
  simp only [takeClearAlerts, fits, Bool.false_eq_true, if_false, State.alertWord]

theorem place_lt (a : AlertKind) : a.place < 15 := by cases a <;> decide

/-- Settles O49: a kind is in the set after exactly when it was and is not named. -/
theorem clearAlertsRemovesNamed : Obligations.ClearAlertsRemovesNamed := by
  intro tag kinds s ready
  have clear : exec (.clearAlerts tag kinds) s = .next (requestArrival 15 tag kinds 0 0 s) := rfl
  have carried : (s.requestFrame 15 tag kinds 0 0).request = .clearAlerts kinds := rfl
  rw [clear]
  refine ⟨fun fits => ⟨_, rfl, ?_, fun a => ?_⟩, fun sixteenth => ?_⟩
  · rw [requestArrival_leaves ready carried (takeClearAlerts_clears fits (restartGap s))]
    rfl
  · have place := place_lt a
    rw [requestArrival_leaves ready carried (takeClearAlerts_clears fits (restartGap s))]
    simp only [hasAlert, putTransit_nc, restartGap_nc, BitVec.getLsbD_and, BitVec.getLsbD_not, place, decide_true,
      Bool.true_and, BitVec.getLsbD_setWidth]
  · rw [requestArrival_answered ready carried (takeClearAlerts_bad sixteenth (restartGap s))]

end Sys2Proof.Machine
end

-- ==== Proofs: what leaves the queue and the clock, the cold reset, the codes and the windows ====
section
/-! PROOF. Every command completes and leaves the pending commands (log entry 10); the line clock moves at a tick, a cold reset
and its release only (R60); the cold values (R140); the codes of R167; and the words of the windows (R155, R168). -/

namespace Sys2Proof.Machine

/-! ### What every command leaves -/

/-- The pending commands and the line clock. -/
def State.paced (s : State) := (s.pending, s.clock)

theorem paced_of_fixed {s t : State} (same : t.fixed = s.fixed) : t.paced = s.paced := by
  obtain ⟨clock, -, -, pending, -⟩ := fixed_parts same
  simp only [State.paced, clock, pending]

theorem Served.paced {s t : State} (request : Served s t) : t.paced = s.paced := by
  induction request with
  | stopped hs => exact paced_of_fixed (stopHeads_fixed hs s)
  | enabled hs => exact paced_of_fixed (foldl_fixed enableHead_fixed hs s)
  | disabled hs => exact paced_of_fixed (foldl_fixed disableHead_fixed hs s)
  | moved _ _ ih => exact ih
  | _ => rfl

theorem serviceArrival_paced (f : ServiceFrame) (s : State) : (serviceArrival f s).paced = s.paced :=
  (takeRequest_served f.request s).paced

theorem putTransit_paced (x : TransitFrame) (s : State) : (putTransit x s).paced = s.paced := rfl

theorem sendOut_paced (ws : List Word) (s : State) : (sendOut ws s).paced = s.paced := rfl

theorem restartGap_paced (s : State) : (restartGap s).paced = s.paced := rfl

theorem Arrives.paced {s t : State} (arrival : Arrives s t) : t.paced = s.paced := by
  cases arrival with
  | passes ws => rw [passBypass_eq]; split <;> rfl
  | forwarded => rfl
  | damaged ws =>
    rw [takeDamaged, putTransit_paced, paced_of_fixed (frameLoss_fixed _)]
    rfl
  | index f ws =>
    rw [takeIndex, putTransit_paced, paced_of_fixed (takeAdvance_fixed _ _ _), paced_of_fixed (takeVent_fixed _ _),
      paced_of_fixed (turretCheck_fixed _ _), restartGap_paced]
  | report f ws =>
    rw [takeReportFrame, putTransit_paced, paced_of_fixed (foldl_fixed takeReport_fixed _ _),
      paced_of_fixed (takeVent_fixed _ _), restartGap_paced]
  | carrier vent ws => rw [takeCarrier, putTransit_paced, paced_of_fixed (takeVent_fixed _ _), restartGap_paced]
  | request f => exact serviceArrival_paced f (restartGap s)
  | wake f => exact serviceArrival_paced f s

theorem departCommands_fixed (s : State) : (departCommands s).fixed = s.fixed :=
  (Quiet.departCommands (C := onlyFull) s).fixed

theorem departFrame_paced (x : TransitFrame) (s : State) : (departFrame x s).paced = s.paced := by
  cases x with
  | accepted lead => rw [departFrame, sendOut_paced, paced_of_fixed (departCommands_fixed s)]
  | _ => rfl

theorem departOldest_paced (s : State) : (departOldest s).paced = s.paced := by
  unfold departOldest
  split
  · rfl
  · rw [departFrame_paced]; rfl

theorem gapExpiry_paced (s : State) : (gapExpiry s).paced = s.paced := by
  unfold gapExpiry
  split
  · rw [paced_of_fixed (requestTrip_fixed .linkGap _)]
    rfl
  · rfl

theorem completeClear_paced (s : State) : (completeClear s).paced = s.paced := by
  unfold completeClear
  split
  next target _ _ =>
    split
    · cases target <;> rfl
    · rfl
  all_goals rfl

theorem completeReset_paced (s : State) : (completeReset s).paced = s.paced := by
  unfold completeReset
  split
  · split
    · rw [warmReset_eq]; rfl
    · rfl
  all_goals rfl

/-- Any event leaves the pending commands, and all but a tick and the pin's two leave the clock. -/
theorem Happens.paced {c : Instr} {s t : State} (event : Happens c s t) : t.pending = s.pending ∧
    (t.clock = s.clock ∨ (c = .lineClockTick ∧ t.clock = s.clock + 1) ∨
      (t.clock = 0 ∧ (c = .coldReset ∨ ∃ a, c = .coldResetRelease a))) := by
  have left {u : State} (same : u.paced = s.paced) : u.pending = s.pending ∧ u.clock = s.clock := by
    simpa only [State.paced, Prod.mk.injEq] using same
  cases event with
  | cold => exact ⟨rfl, .inr (.inr ⟨rfl, .inl rfl⟩)⟩
  | release straps =>
    unfold releasePin
    split
    · exact ⟨rfl, .inr (.inr ⟨rfl, .inr ⟨straps, rfl⟩⟩)⟩
    · exact ⟨rfl, .inl rfl⟩
  | tick =>
    unfold Machine.tick
    split
    · exact ⟨rfl, .inl rfl⟩
    · exact ⟨rfl, .inr (.inl ⟨rfl, rfl⟩)⟩
  | frame _ ws => exact (left (frameArrival_arrives ws s).paced).imp_right .inl
  | departure => exact (left (departOldest_paced s)).imp_right .inl
  | gap => exact (left (gapExpiry_paced s)).imp_right .inl
  | charge => exact (left (paced_of_fixed (Quiet.nextChargeExpiry s).fixed)).imp_right .inl
  | clear => exact (left (completeClear_paced s)).imp_right .inl
  | reset => exact (left (completeReset_paced s)).imp_right .inl

/-- Settles O2: every command is one of the events, and each leaves the pending commands. -/
theorem everyCommandCompletes : Obligations.EveryCommandCompletes := by
  intro c s
  obtain ⟨t, answer, event⟩ := exec_happens c s
  exact ⟨t, answer, event.paced.1⟩

/-- Settles O4: a tick by the pin, and the clock through each event. -/
theorem lineClockCounts : Obligations.LineClockCounts := by
  refine ⟨fun s => ⟨fun released => ?_, fun pinned => ?_⟩, fun c s t taken => (happens_of_exec taken).paced.2⟩
  · show Host.Outcome.next (tick s) = _
    simp [tick, released]
  · show Host.Outcome.next (tick s) = _
    simp [tick, pinned]

/-! ### The cold reset and its release (R140, R169) -/

theorem linkHeld_iff (s : State) :
    s.linkHeld = true ↔ s.coldResetPin = true ∨ s.lp.nodeAddress.toNat = 0 ∨ s.lp.nodeAddress.toNat = 63 := by
  have zero : s.lp.nodeAddress = 0 ↔ s.lp.nodeAddress.toNat = 0 := by rw [← BitVec.toNat_inj]; rfl
  have last : s.lp.nodeAddress = 63 ↔ s.lp.nodeAddress.toNat = 63 := by rw [← BitVec.toNat_inj]; rfl
  simp only [State.linkHeld, State.noAddress, Bool.or_eq_true, beq_iff_eq, zero, last]

theorem bypassed_iff (s : State) : s.bypassed = true ↔ s.linkHeld = true ∨ s.nc.mode = .waitSync := by
  simp only [State.bypassed, Bool.or_eq_true, beq_iff_eq]

/-- Settles O3: the cold values are those of `State.reset`, and the release reads the straps while the pin is asserted. -/
theorem resetPinSetsColdValues : Obligations.ResetPinSetsColdValues := by
  refine ⟨fun s => ⟨coldReset s, rfl, rfl, rfl, fun k => ?_, rfl, rfl, fun h => ?_, fun r => ?_, rfl, rfl, fun k => ?_,
    fun i => ?_, fun k => ?_, rfl, rfl, rfl, rfl, rfl, rfl, rfl, rfl, rfl, rfl, rfl, rfl, rfl⟩, fun straps s =>
    ⟨fun pinned => ⟨_, ?_, rfl, ?_, ?_⟩, fun released => ?_⟩⟩
  · simp [coldReset, State.reset, State.record]
  · simp [coldReset, State.reset, State.head]
  · simp [coldReset, State.reset]
  · simp [coldReset, State.reset]
  · simp [coldReset, State.reset]
  · simp [coldReset, State.reset, State.inUse]
  · show Host.Outcome.next (releasePin straps s) = _
    simp [releasePin, pinned]
  · rw [bypassed_iff]; exact .inr rfl
  · simp [linkHeld_iff]
  · show Host.Outcome.next (releasePin straps s) = _
    simp [releasePin, released]

/-- Settles O54: each invariant of the state after reset, by its check. -/
theorem resetMeetsInvariants : Obligations.ResetMeetsInvariants :=
  ⟨State.Bounded.reset, State.ModesLegal.reset, State.RecordsLegal.reset, State.HeadsLegal.reset, State.Accounted.reset,
    .of_check (by decide +kernel), .of_check (by decide +kernel)⟩

/-! ### Codes (R167) -/

/-- The places of a list whose places count up from 0. -/
theorem place_of_listed {α : Type} {place : α → Nat} {xs : List α} (counts : xs.map place = List.range xs.length)
    {i : Nat} {x : α} (listed : xs[i]? = some x) : place x = i := by
  have mapped : (xs.map place)[i]? = some (place x) := by simp [listed]
  obtain ⟨inside, -⟩ := List.getElem?_eq_some_iff.mp listed
  rw [counts, List.getElem?_range inside] at mapped
  exact (Option.some.inj mapped).symm

/-- Settles O39: the lists by evaluation; the place of each cause and alert is its index in the list. -/
theorem codesAsListed : Obligations.CodesAsListed := by
  refine ⟨by decide, by decide, fun i c listed x => ?_, fun i a listed => ?_, by decide, by decide,
    ⟨rfl, fun _ _ => ⟨rfl, rfl⟩⟩, by decide⟩
  · have place : c.place = i := place_of_listed (place := Cause.place) (by decide) listed
    exact ⟨by rw [hasCause, place], by rw [addCause, place]⟩
  · have place : a.place = i := place_of_listed (place := AlertKind.place) (by decide) listed
    exact ⟨place, fun x => ⟨by rw [hasAlert, place], by rw [addAlert, place]⟩⟩

end Sys2Proof.Machine
end

-- ==== Proofs: the words of the windows ====
section
/-! PROOF. The word each window shows at each of its places (R155, R168), window by window. -/

namespace Sys2Proof.Machine

/-! ### Packed words -/

/-- A field of a packed word, read back from its value. -/
theorem extract_ofNat {n : Nat} (start len : Nat) (fits : n < 65536) :
    ((BitVec.ofNat 16 n).extractLsb' start len).toNat = n / 2 ^ start % 2 ^ len := by
  rw [BitVec.extractLsb'_toNat, BitVec.toNat_ofNat, Nat.mod_eq_of_lt fits, Nat.shiftRight_eq_div_pow]

/-- A flag of a packed word, read back from its value. -/
theorem bit_ofNat {n : Nat} {b : Bool} (i : Nat) (fits : n < 65536) (flag : n / 2 ^ i % 2 = flagBit b) :
    (BitVec.ofNat 16 n).getLsbD i = b := by
  rw [BitVec.getLsbD, BitVec.toNat_ofNat, Nat.mod_eq_of_lt fits, Nat.testBit_eq_decide_div_mod_eq, flag]
  cases b <;> rfl

theorem flagBit_le (b : Bool) : flagBit b ≤ 1 := by cases b <;> decide

/-! ### NODE -/

theorem node_words (s : State) : s.windowWord 0 0 = BitVec.ofNat 16 (match s.nc.mode with
      | .waitSync => 0 | .standby => 0 | .run => 1 | .drain => 2 | .trip => 3) ∧
    s.windowWord 0 1 = BitVec.ofNat 16 (match s.nc.busy with
      | .idle => 0 | .clearWindow _ _ => 1 | .resetNode _ => 2) ∧
    s.windowWord 0 3 = BitVec.ofNat 16 (match s.nc.tripCause with
      | none => 0 | some .vent => 1 | some .linkGap => 2 | some .trackLost => 3 | some .queueFull => 4) ∧
    s.windowWord 0 14 = BitVec.ofNat 16 (match s.lp.candidate with
      | none => 0
      | some c => 32768 + (match c.code with | none => 0 | some p => 256 + p.val)) := by
  refine ⟨?mode, ?busy, ?cause, ?candidate⟩
  case mode =>
    show BitVec.ofNat 16 s.nc.mode.code = _
    cases s.nc.mode <;> rfl
  case busy =>
    show BitVec.ofNat 16 s.nc.busy.code = _
    cases s.nc.busy <;> rfl
  case cause =>
    show BitVec.ofNat 16 (tripCauseCode s.nc.tripCause) = _
    cases s.nc.tripCause with
    | none => rfl
    | some c => cases c <;> rfl
  case candidate =>
    show candidateWord s.lp.candidate = _
    cases s.lp.candidate with
    | none => rfl
    | some c =>
      simp only [candidateWord]
      cases c.code with
      | none => rfl
      | some p => simp only [Nat.add_assoc]

/-! ### TRIM, RECIPE, TALLY and HEADS -/

theorem trim_words (s : State) (r : Fin 16) : s.windowWord 2 (2 * r.val) = (s.hu.trim[r]).bound ∧
    s.windowWord 2 (2 * r.val + 1) = (s.hu.trim[r]).factor := by
  have row : (2 * r.val + 1) / 2 = r.val := by omega
  have odd : (2 * r.val + 1) % 2 = 1 := by omega
  constructor
  · show s.trimWord (2 * r.val) = _
    simp [State.trimWord]
  · show s.trimWord (2 * r.val + 1) = _
    simp [State.trimWord, row, odd]

theorem recipe_words (s : State) (k : Fin 8) (w : Fin 16) :
    s.windowWord 3 (16 * k.val + w.val) = s.recipeWord k w := by
  show s.rs.words[Fin.ofNat 128 (16 * k.val + w.val)] = s.rs.words[recipeIndex k w]
  congr 1
  apply Fin.ext
  simp only [Fin.ofNat, recipeIndex]
  omega

/-- The five tallies in the order of the window. -/
def Tally.shown (t : Tally) (i : Nat) : BitVec 32 :=
  match i with
  | 0 => t.admitted | 1 => t.passed | 2 => t.rejected | 3 => t.sampled | _ => t.backedOut

theorem tallyWord_eq (s : State) (n : Nat) : s.windowWord 5 n =
    if n % 2 = 0 then upperHalf ((s.vu.tallies[Fin.ofNat 8 (n / 10)]).shown (n % 10 / 2))
    else lowerHalf ((s.vu.tallies[Fin.ofNat 8 (n / 10)]).shown (n % 10 / 2)) := rfl

theorem tally_halves (s : State) (k : Fin 8) (i : Nat) (inside : i < 5) :
    s.windowWord 5 (10 * k.val + 2 * i) = upperHalf ((s.vu.tallies[k]).shown i) ∧
      s.windowWord 5 (10 * k.val + 2 * i + 1) = lowerHalf ((s.vu.tallies[k]).shown i) := by
  have slot (half : Nat) (isHalf : half < 2) : Fin.ofNat 8 ((10 * k.val + 2 * i + half) / 10) = k := by
    apply Fin.ext
    simp only [Fin.ofNat]
    omega
  have tally (half : Nat) (isHalf : half < 2) : (10 * k.val + 2 * i + half) % 10 / 2 = i := by omega
  have upper := tallyWord_eq s (10 * k.val + 2 * i + 0)
  have lower := tallyWord_eq s (10 * k.val + 2 * i + 1)
  rw [if_pos (by omega), tally 0 (by decide)] at upper
  rw [if_neg (by omega), tally 1 (by decide)] at lower
  simp only [slot 0 (by decide)] at upper
  simp only [slot 1 (by decide)] at lower
  exact ⟨upper, lower⟩

theorem tally_words (s : State) (k : Fin 8) (i : Fin 5) (x : BitVec 32)
    (listed : [(s.vu.tallies[k]).admitted, (s.vu.tallies[k]).passed, (s.vu.tallies[k]).rejected,
      (s.vu.tallies[k]).sampled, (s.vu.tallies[k]).backedOut][i.val]? = some x) :
    s.windowWord 5 (10 * k.val + 2 * i.val) = x.extractLsb' 16 16 ∧
      s.windowWord 5 (10 * k.val + 2 * i.val + 1) = x.extractLsb' 0 16 := by
  obtain ⟨upper, lower⟩ := tally_halves s k i.val i.isLt
  rw [upper, lower]
  match i with
  | 0 | 1 | 2 | 3 | 4 => cases listed; exact ⟨rfl, rfl⟩

theorem heads_words (s : State) (h : Fin 24) (c : HeadContext) (context : c = s.head h) :
    s.windowWord 6 (3 * h.val) = BitVec.ofNat 16 c.state.code ∧
      s.windowWord 6 (3 * h.val + 1) = BitVec.ofNat 16 (match c.bound with | none => 65535 | some l => l.slot.val) ∧
      s.windowWord 6 (3 * h.val + 2) = BitVec.ofNat 16
        ((match c.trailing with | none => 127 | some l => l.slot.val) + if c.enabled = true then 32768 else 0) := by
  subst context
  have head (i : Nat) (inside : i < 3) : (3 * h.val + i) / 3 = h.val := by omega
  have field (i : Nat) (inside : i < 3) : (3 * h.val + i) % 3 = i := by omega
  have same : Fin.ofNat 24 h.val = h := by simp
  refine ⟨?state, ?bound, ?flags⟩
  case state =>
    show s.headsWord (3 * h.val + 0) = _
    simp only [State.headsWord, head 0 (by decide), field 0 (by decide), same]
  case bound =>
    show s.headsWord (3 * h.val + 1) = _
    rw [State.headsWord, head 1 (by decide), field 1 (by decide), same]
    cases (s.head h).bound <;> rfl
  case flags =>
    show s.headsWord (3 * h.val + 2) = _
    rw [State.headsWord, head 2 (by decide), field 2 (by decide), same]
    show (s.head h).flagWord = _
    rw [HeadContext.flagWord, flagBit_eq, mul_ite, Nat.mul_one, Nat.mul_zero] <;> cases (s.head h).trailing <;> rfl

/-! ### RING -/

theorem ring_word (s : State) (k : Fin 64) (i : Nat) (inside : i < 24) :
    s.windowWord 7 (24 * k.val + i) = (s.record k).word i := by
  have slot : (24 * k.val + i) / 24 = k.val := by omega
  have field : (24 * k.val + i) % 24 = i := by omega
  have same : Fin.ofNat 64 k.val = k := by simp
  show (s.record (Fin.ofNat 64 ((24 * k.val + i) / 24))).word ((24 * k.val + i) % 24) = _
  rw [slot, field, same]

theorem ring_flags (r : Record) : r.flagWord.extractLsb' 0 2 = (match r.state with | .empty => 0 | .loaded => 1 | .final => 2) ∧
    r.flagWord.extractLsb' 2 2 = 0 ∧
    r.flagWord.extractLsb' 4 2 = (match r.verdict with
      | none => 0 | some .pass => 1 | some .reject => 2 | some .sample => 3) ∧
    r.flagWord.extractLsb' 6 2 = 0 ∧ r.flagWord.getLsbD 8 = r.engaged ∧ r.flagWord.getLsbD 9 = r.bound ∧
    r.flagWord.getLsbD 10 = r.released ∧ r.flagWord.extractLsb' 11 5 = 0 := by
  have state : r.state.code < 3 := by cases r.state <;> decide
  have verdict : verdictCode r.verdict < 4 := by
    rcases r.verdict with _ | v
    · decide
    · cases v <;> decide
  have engaged := flagBit_le r.engaged
  have bound := flagBit_le r.bound
  have released := flagBit_le r.released
  have stateCode : (match r.state with | .empty => (0 : BitVec 2) | .loaded => 1 | .final => 2).toNat = r.state.code := by
    cases r.state <;> rfl
  have verdictIs : (match r.verdict with
      | none => (0 : BitVec 2) | some .pass => 1 | some .reject => 2 | some .sample => 3).toNat = verdictCode r.verdict := by
    rcases r.verdict with _ | v
    · rfl
    · cases v <;> rfl
  refine ⟨?_, ?_, ?_, ?_, bit_ofNat 8 (by omega) (by omega), bit_ofNat 9 (by omega) (by omega),
    bit_ofNat 10 (by omega) (by omega), ?_⟩
  all_goals
    apply BitVec.eq_of_toNat_eq
    rw [Record.flagWord, extract_ofNat _ _ (by omega)]
  · rw [stateCode]; omega
  · rw [show (0 : BitVec 2).toNat = 0 from rfl]; omega
  · rw [verdictIs]; omega
  · rw [show (0 : BitVec 2).toNat = 0 from rfl]; omega
  · rw [show (0 : BitVec 5).toNat = 0 from rfl]; omega

/-- The eleven presence bits, whatever they show, and the five places above them. -/
theorem presence_bits (b0 b1 b2 b3 b4 b5 b6 b7 b8 b9 b10 : Bool) (i : Fin 16) :
    (BitVec.ofNat 16 (flagBit b0 + 2 * flagBit b1 + 4 * flagBit b2 + 8 * flagBit b3 + 16 * flagBit b4 + 32 * flagBit b5
      + 64 * flagBit b6 + 128 * flagBit b7 + 256 * flagBit b8 + 512 * flagBit b9 + 1024 * flagBit b10)).getLsbD i.val =
      [b0, b1, b2, b3, b4, b5, b6, b7, b8, b9, b10].getD i.val false := by
  have := flagBit_le b0; have := flagBit_le b1; have := flagBit_le b2; have := flagBit_le b3; have := flagBit_le b4
  have := flagBit_le b5; have := flagBit_le b6; have := flagBit_le b7; have := flagBit_le b8; have := flagBit_le b9
  have := flagBit_le b10
  have clear : flagBit false = 0 := rfl
  obtain ⟨i, inside⟩ := i
  match i, inside with
  | 0, _ => exact bit_ofNat (b := b0) 0 (by omega) (by omega)
  | 1, _ => exact bit_ofNat (b := b1) 1 (by omega) (by omega)
  | 2, _ => exact bit_ofNat (b := b2) 2 (by omega) (by omega)
  | 3, _ => exact bit_ofNat (b := b3) 3 (by omega) (by omega)
  | 4, _ => exact bit_ofNat (b := b4) 4 (by omega) (by omega)
  | 5, _ => exact bit_ofNat (b := b5) 5 (by omega) (by omega)
  | 6, _ => exact bit_ofNat (b := b6) 6 (by omega) (by omega)
  | 7, _ => exact bit_ofNat (b := b7) 7 (by omega) (by omega)
  | 8, _ => exact bit_ofNat (b := b8) 8 (by omega) (by omega)
  | 9, _ => exact bit_ofNat (b := b9) 9 (by omega) (by omega)
  | 10, _ => exact bit_ofNat (b := b10) 10 (by omega) (by omega)
  | 11, _ => exact bit_ofNat (b := false) 11 (by omega) (by omega)
  | 12, _ => exact bit_ofNat (b := false) 12 (by omega) (by omega)
  | 13, _ => exact bit_ofNat (b := false) 13 (by omega) (by omega)
  | 14, _ => exact bit_ofNat (b := false) 14 (by omega) (by omega)
  | 15, _ => exact bit_ofNat (b := false) 15 (by omega) (by omega)
  | n + 16, inside => exact absurd inside (by omega)

/-! ### PARK and SAMPLE -/

theorem park_place {s : State} {i : Nat} {e : ParkEntry} (listed : s.rs.parkList[i]? = some e) (half : Nat)
    (isHalf : half < 2) : s.windowWord 8 (2 * i + half + 2) = if half = 0 then e.placeWord else e.value := by
  have place : (2 * i + half) / 2 = i := by omega
  have which : (2 * i + half) % 2 = half := by omega
  show s.parkWord (2 * i + half + 2) = _
  simp only [State.parkWord, place, which, listed]

theorem park_empty {s : State} {i : Nat} (beyond : s.rs.parkList[i]? = none) (half : Nat) (isHalf : half < 2) :
    s.windowWord 8 (2 * i + half + 2) = 0 := by
  have place : (2 * i + half) / 2 = i := by omega
  show s.parkWord (2 * i + half + 2) = _
  simp only [State.parkWord, place, beyond]

theorem park_words (s : State) (i : Fin 16) :
    (∀ e : ParkEntry, s.rs.parkList[i.val]? = some e →
      s.windowWord 8 (2 + 2 * i.val) = BitVec.ofNat 16 (32768 + 256 * e.slot.val + e.word.val) ∧
      s.windowWord 8 (3 + 2 * i.val) = e.value) ∧
    (s.rs.parkList[i.val]? = none → s.windowWord 8 (2 + 2 * i.val) = 0 ∧ s.windowWord 8 (3 + 2 * i.val) = 0) := by
  have first : 2 + 2 * i.val = 2 * i.val + 0 + 2 := by omega
  have second : 3 + 2 * i.val = 2 * i.val + 1 + 2 := by omega
  rw [first, second]
  refine ⟨fun e listed => ?_, fun none => ⟨park_empty none 0 (by decide), park_empty none 1 (by decide)⟩⟩
  rw [park_place listed 0 (by decide), park_place listed 1 (by decide)]
  exact ⟨congrArg (BitVec.ofNat 16) (by omega), rfl⟩

theorem sample_place {s : State} {i : Nat} {q : SampleRequest} (listed : s.vu.samples[i]? = some q) (half : Nat)
    (isHalf : half < 2) :
    s.windowWord 9 (2 * i + half + 1) = if half = 0 then q.placeWord else q.tag.setWidth 16 := by
  have place : (2 * i + half) / 2 = i := by omega
  have which : (2 * i + half) % 2 = half := by omega
  show s.sampleWord (2 * i + half + 1) = _
  simp only [State.sampleWord, place, which, listed]

theorem sample_empty {s : State} {i : Nat} (beyond : s.vu.samples[i]? = none) (half : Nat) (isHalf : half < 2) :
    s.windowWord 9 (2 * i + half + 1) = 0 := by
  have place : (2 * i + half) / 2 = i := by omega
  show s.sampleWord (2 * i + half + 1) = _
  simp only [State.sampleWord, place, beyond]

theorem sample_placeWord (q : SampleRequest) : q.placeWord = BitVec.ofNat 16 (32768 + (match q.kind with
    | .any => 0 | .slot k => 256 * k.val + 1 | .head h => 256 * h.val + 2)) := by
  obtain ⟨kind, tag⟩ := q
  refine congrArg (BitVec.ofNat 16) ?_
  cases kind <;> simp only [SampleKind.code, SampleKind.argument] <;> omega

theorem sample_words (s : State) (i : Fin 4) :
    (∀ q : SampleRequest, s.vu.samples[i.val]? = some q →
      s.windowWord 9 (1 + 2 * i.val) = BitVec.ofNat 16 (32768 + (match q.kind with
        | .any => 0 | .slot k => 256 * k.val + 1 | .head h => 256 * h.val + 2)) ∧
      s.windowWord 9 (2 + 2 * i.val) = q.tag.setWidth 16) ∧
    (s.vu.samples[i.val]? = none → s.windowWord 9 (1 + 2 * i.val) = 0 ∧ s.windowWord 9 (2 + 2 * i.val) = 0) := by
  have first : 1 + 2 * i.val = 2 * i.val + 0 + 1 := by omega
  have second : 2 + 2 * i.val = 2 * i.val + 1 + 1 := by omega
  rw [first, second]
  refine ⟨fun q listed => ?_, fun none => ⟨sample_empty none 0 (by decide), sample_empty none 1 (by decide)⟩⟩
  rw [sample_place listed 0 (by decide), sample_place listed 1 (by decide)]
  exact ⟨sample_placeWord q, rfl⟩

theorem scopeWord_eq (scope : Option Nat) :
    scopeWord scope = BitVec.ofNat 16 (match scope with | none => 0 | some m => 32768 + m) := by
  cases scope with
  | none => rfl
  | some m => exact congrArg (BitVec.ofNat 16) (Nat.add_comm _ _)

/-- Settles O38: each window by its own lemma; the words that show a field of the state as it is, by evaluation. -/
theorem windowsShowState : Obligations.WindowsShowState := by
  refine ⟨by decide, fun s => ⟨?node, ?stations, trim_words s, recipe_words s, ?inUse, tally_words s, heads_words s, ?ring,
    ⟨rfl, scopeWord_eq s.rs.scope, park_words s⟩, rfl, sample_words s⟩⟩
  case node =>
    obtain ⟨mode, busy, cause, candidate⟩ := node_words s
    exact ⟨mode, busy, rfl, cause, rfl, rfl, rfl, rfl, rfl, rfl, rfl, rfl, rfl, rfl, candidate⟩
  case stations =>
    intro i
    show s.tu.stations[Fin.ofNat 7 i.val] = _
    simp
  case inUse =>
    intro k
    show BitVec.ofNat 16 (s.inUse (Fin.ofNat 8 k.val)) = _
    simp
  case ring =>
    intro k r w record words
    have shown (i : Nat) (inside : i < 24) : w i = r.word i := by rw [words, ring_word s k i inside, record]
    refine ⟨?flags, shown 1 (by decide), shown 2 (by decide), ?head, shown 4 (by decide), shown 5 (by decide),
      shown 6 (by decide), shown 7 (by decide), shown 8 (by decide), shown 9 (by decide), shown 10 (by decide),
      shown 11 (by decide), shown 12 (by decide), shown 13 (by decide), shown 14 (by decide), shown 15 (by decide),
      shown 16 (by decide), shown 17 (by decide), shown 18 (by decide), shown 19 (by decide), shown 20 (by decide), ?sample,
      ?presence, shown 23 (by decide)⟩
    case flags =>
      rw [shown 0 (by decide)]
      exact ring_flags r
    case head =>
      rw [shown 3 (by decide)]
      show BitVec.ofNat 16 ((r.head.map Fin.val).getD 0) = _
      cases r.head <;> rfl
    case sample =>
      rw [shown 21 (by decide)]
      show (match r.sample with | none => (0 : Word) | some q => q.tag.setWidth 16) = _
      cases r.sample <;> rfl
    case presence =>
      intro i
      rw [shown 22 (by decide)]
      exact presence_bits _ _ _ _ _ _ _ _ _ _ _ i

end Sys2Proof.Machine
end

-- ==== Proofs: reading frames, the dose, the bands, reports and the application of parked writes ====
section
/-! PROOF. A frame is read from its words (R125, R128, R164, R165); the trim factor and the dose (R64, R65); the causes of the
five bands (R92); INFEED and MEASURE reports (R23, R82 to R84); and the application of the Park List (R113, R114). -/

namespace Sys2Proof.Machine

/-! ### The check word (R128) -/

theorem zero_xor_word (x : Word) : 0 ^^^ x = x := BitVec.zero_xor

theorem xor_eq_zero_word {x y : Word} : x ^^^ y = 0 ↔ x = y := BitVec.xor_eq_zero_iff

theorem foldl_xor (ws : List Word) (x : Word) : ws.foldl (· ^^^ ·) x = x ^^^ foldWords ws := by
  induction ws generalizing x with
  | nil => simp [foldWords]
  | cons w ws ih =>
    rw [foldWords, List.foldl_cons, List.foldl_cons, ih, ih, zero_xor_word, BitVec.xor_assoc]

theorem foldWords_cons (w : Word) (ws : List Word) : foldWords (w :: ws) = w ^^^ foldWords ws := by
  rw [foldWords, List.foldl_cons, foldl_xor, zero_xor_word]

theorem foldWords_append (us ws : List Word) : foldWords (us ++ ws) = foldWords us ^^^ foldWords ws := by
  rw [foldWords, List.foldl_append, foldl_xor]
  rfl

/-- A row of words has a matching check word when all its words fold to 0. -/
theorem checkMatches_iff {ws : List Word} (some_word : ws ≠ []) : checkMatches ws = true ↔ foldWords ws = 0 := by
  obtain ⟨front, check, rfl⟩ := (List.eq_nil_or_concat ws).resolve_left some_word
  have single : foldWords [check] = check := by simp [foldWords]
  rw [List.concat_eq_append, foldWords_append, single, xor_eq_zero_word]
  simp [checkMatches]

/-- One changed word changes the fold. -/
theorem foldWords_set {ws : List Word} {i : Nat} (inside : i < ws.length) (w : Word) :
    foldWords (ws.set i w) = foldWords ws ^^^ ws[i] ^^^ w := by
  induction ws generalizing i with
  | nil => cases inside
  | cons a as ih =>
    cases i with
    | zero =>
      have twice : a ^^^ foldWords as ^^^ a ^^^ w = (a ^^^ a) ^^^ (w ^^^ foldWords as) := by ac_rfl
      rw [List.set_cons_zero, foldWords_cons, foldWords_cons, List.getElem_cons_zero, twice, BitVec.xor_self]
      exact (zero_xor_word _).symm
    | succ j =>
      rw [List.set_cons_succ, foldWords_cons, foldWords_cons, ih (Nat.lt_of_succ_lt_succ inside), List.getElem_cons_succ]
      simp only [BitVec.xor_assoc]

theorem classify_unmatched {ws : List Word} (unmatched : checkMatches ws = false) : classify ws = .damaged := by
  simp [classify, unmatched]

theorem checkMatches_of_classified {ws : List Word} (read : classify ws ≠ .damaged) : checkMatches ws = true := by
  cases matched : checkMatches ws with
  | true => rfl
  | false => exact absurd (classify_unmatched matched) read

theorem classify_changed {ws : List Word} {i : Nat} {w : Word} (read : classify ws ≠ .damaged) (inside : i < ws.length)
    (changed : w ≠ frameWord ws i) : classify (ws.set i w) = .damaged := by
  have some_word : ws ≠ [] := by rintro rfl; cases inside
  have still : ws.set i w ≠ [] := by simpa using some_word
  have folds := (checkMatches_iff some_word).mp (checkMatches_of_classified read)
  have word : frameWord ws i = ws[i] := by simp [frameWord, inside]
  refine classify_unmatched (Bool.eq_false_iff.mpr fun matched => changed ?_)
  have again := (checkMatches_iff still).mp matched
  rw [foldWords_set inside, folds, zero_xor_word, xor_eq_zero_word] at again
  rw [word, again]

/-! ### The kinds of frame (R164) -/

/-- A frame with a matching check word is read by its kind word. -/
theorem classify_kinds (ws : List Word) :
    classify (withCheck (1 :: ws)) = decodeIndex (withCheck (1 :: ws)) ∧
    classify (withCheck (2 :: ws)) = decodeReportFrame (withCheck (2 :: ws)) ∧
    classify (withCheck (3 :: ws)) = (if (withCheck (3 :: ws)).length = 20
      then .carrier ((frameWord (withCheck (3 :: ws)) 1).getLsbD 0) else .damaged) ∧
    classify (withCheck (4 :: ws)) = (if (withCheck (4 :: ws)).length = 8
      then .service (decodeService (withCheck (4 :: ws))) else .damaged) ∧
    classify (withCheck (5 :: ws)) = (if (withCheck (5 :: ws)).length = 11 then .reply else .damaged) := by
  refine ⟨?_, ?_, ?_, ?_, ?_⟩ <;> (rw [classify, if_pos (checkMatches_withCheck _)]; rfl)

theorem classify_unknown {k : Word} (other : k.toNat = 0 ∨ 5 < k.toNat) (ws : List Word) :
    classify (withCheck (k :: ws)) = .unknown := by
  have kind : (frameWord (withCheck (k :: ws)) 0).toNat = k.toNat := rfl
  rw [classify, if_pos (checkMatches_withCheck _)]
  split
  case h_6 => rfl
  all_goals omega

@[simp] theorem length_withCheck (ws : List Word) : (withCheck ws).length = ws.length + 1 := by simp [withCheck]

theorem decodeAdvance_code {x : Word} (a : Advance)
    (code : (x.extractLsb' 8 2).toNat = (match a with | .forward => 1 | .dwell => 2 | .reverse => 3)) :
    decodeAdvance x = some a := by
  unfold decodeAdvance
  rw [code]
  cases a <;> rfl

theorem decodeHead_some {n : Nat} {h : Fin 24} (number : n = h.val) : decodeHead n = some h := by
  subst number
  simp [decodeHead]

theorem decodeHead_none {n : Nat} (above : 23 < n) : decodeHead n = none := dif_neg (by omega)

/-- INDEX frames by the fields of their fourth word. -/
theorem classify_index (vent count x : Word) {rest : List Word} (length : rest.length = 22) :
    classify (withCheck ([1, vent, count, x] ++ rest)) =
      (match decodeHead (x.extractLsb' 0 5).toNat, decodeAdvance x with
        | some φ, some a => .index ⟨vent.getLsbD 0, count, φ, a⟩
        | _, _ => .damaged) := by
  refine (classify_kinds ([vent, count, x] ++ rest)).1.trans ?_
  show decodeIndex _ = _
  have whole : (withCheck (1 :: ([vent, count, x] ++ rest))).length = 27 := by simp [length]
  rw [decodeIndex, if_pos whole]
  rfl

/-- The reports of a REPORT frame are read one by one. -/
theorem decodeReports_listed (qs : List (Word × Word × Word × Word)) (tail : List Word) :
    decodeReports qs.length (qs.flatMap (fun q => [q.1, q.2.1, q.2.2.1, q.2.2.2]) ++ tail) =
      qs.mapM (fun q => decodeReport q.1 q.2.1 q.2.2.1 q.2.2.2) := by
  induction qs with
  | nil => rfl
  | cons q qs ih =>
    rw [List.mapM_cons, ← ih]
    simp only [List.flatMap_cons, List.cons_append, List.nil_append, List.length_cons, decodeReports]
    cases decodeReport q.1 q.2.1 q.2.2.1 q.2.2.2 with
    | none => rfl
    | some r =>
      cases decodeReports qs.length (qs.flatMap (fun q => [q.1, q.2.1, q.2.2.1, q.2.2.2]) ++ tail) <;> rfl

theorem length_reports (qs : List (Word × Word × Word × Word)) :
    (qs.flatMap (fun q => [q.1, q.2.1, q.2.2.1, q.2.2.2])).length = 4 * qs.length := by
  induction qs with
  | nil => rfl
  | cons q qs ih =>
    simp only [List.flatMap_cons, List.length_append, ih, List.length_cons, List.length_nil]
    omega

theorem classify_report (vent : Word) {rest : List Word} (length : rest.length = 17)
    {qs : List (Word × Word × Word × Word)} (few : qs.length ≤ 12) :
    classify (withCheck ([2, vent, BitVec.ofNat 16 qs.length] ++
        qs.flatMap (fun q => [q.1, q.2.1, q.2.2.1, q.2.2.2]) ++ rest)) =
      (match qs.mapM (fun q => decodeReport q.1 q.2.1 q.2.2.1 q.2.2.2) with
        | some rs => .report ⟨vent.getLsbD 0, rs⟩ | none => .damaged) := by
  obtain ⟨-, reports, -⟩ := classify_kinds ([vent, BitVec.ofNat 16 qs.length] ++
    qs.flatMap (fun q => [q.1, q.2.1, q.2.2.1, q.2.2.2]) ++ rest)
  refine reports.trans ?_
  show decodeReportFrame _ = _
  have count : (BitVec.ofNat 16 qs.length).toNat = qs.length := by
    rw [BitVec.toNat_ofNat, Nat.mod_eq_of_lt (by omega)]
  have whole : (withCheck (2 :: ([vent, BitVec.ofNat 16 qs.length] ++
      qs.flatMap (fun q => [q.1, q.2.1, q.2.2.1, q.2.2.2]) ++ rest))).length = 4 * qs.length + 21 := by
    simp only [length_withCheck, List.length_cons, List.length_append, length_reports, length, List.length_nil]
    omega
  have read : decodeReports qs.length ((withCheck (2 :: ([vent, BitVec.ofNat 16 qs.length] ++
      qs.flatMap (fun q => [q.1, q.2.1, q.2.2.1, q.2.2.2]) ++ rest))).drop 3) =
        qs.mapM (fun q => decodeReport q.1 q.2.1 q.2.2.1 q.2.2.2) := by
    rw [← decodeReports_listed qs (rest ++ [foldWords (2 :: ([vent, BitVec.ofNat 16 qs.length] ++
      qs.flatMap (fun q => [q.1, q.2.1, q.2.2.1, q.2.2.2]) ++ rest))])]
    simp [withCheck]
  have number : (frameWord (withCheck (2 :: ([vent, BitVec.ofNat 16 qs.length] ++
      qs.flatMap (fun q => [q.1, q.2.1, q.2.2.1, q.2.2.2]) ++ rest))) 2).toNat = qs.length := count
  rw [decodeReportFrame, number, if_pos ⟨few, whole⟩, read]
  rfl

/-! ### The kinds of report (R165) -/

theorem decodeEventKind_listed (w : Word) : decodeEventKind w =
    [EventKind.clamped, .opened, .closed, .bottom, .fault][(w.extractLsb' 0 3).toNat]? := by
  unfold decodeEventKind
  generalize (w.extractLsb' 0 3).toNat = n
  match n with
  | 0 | 1 | 2 | 3 | 4 => rfl
  | n + 5 => rfl

theorem decodeMeasureKind_listed (w : Word) : decodeMeasureKind w =
    [MeasureKind.height, .diameter, .gross][(w.extractLsb' 0 2).toNat]? := by
  unfold decodeMeasureKind
  generalize (w.extractLsb' 0 2).toNat = n
  match n with
  | 0 | 1 | 2 => rfl
  | n + 3 => rfl

theorem decodeReport_kinds (w a b c : Word) (n : Nat) (kind : n = (w.extractLsb' 12 4).toNat) :
    (∀ p : Fin 16, n = 1 → (w.extractLsb' 0 4).toNat = p.val →
      decodeReport w a b c = some (.infeed (w.getLsbD 8) p a (w.getLsbD 9) b)) ∧
    (n = 2 → decodeReport w a b c = some (.event a
      [EventKind.clamped, .opened, .closed, .bottom, .fault][(w.extractLsb' 0 3).toNat]? b)) ∧
    (n = 3 → decodeReport w a b c = some (.flow a (b.extractLsb' 0 8))) ∧
    (n = 4 → decodeReport w a b c = some (.measure
      [MeasureKind.height, .diameter, .gross][(w.extractLsb' 0 2).toNat]? (w.getLsbD 4) a b c)) ∧
    (n = 0 ∨ 4 < n → decodeReport w a b c = none) := by
  unfold decodeReport
  rw [← kind]
  refine ⟨?_, ?_, ?_, ?_, ?_⟩
  · rintro p rfl product
    have same : Fin.ofNat 16 (w.extractLsb' 0 4).toNat = p := by rw [product]; simp
    rw [same]
    rfl
  · rintro rfl
    rw [decodeEventKind_listed]
    rfl
  · rintro rfl
    rfl
  · rintro rfl
    rw [decodeMeasureKind_listed]
    rfl
  · intro other
    split
    case h_5 => rfl
    all_goals omega

/-- A frame of one of the five kinds with another length, or with too many reports, is damaged (R128). -/
theorem classify_badLength {k : Word} {ws : List Word}
    (bad : (k = 1 ∧ ws.length ≠ 25) ∨ (k = 2 ∧ (ws.length ≠ 4 * (ws.getD 1 0).toNat + 19 ∨ 12 < (ws.getD 1 0).toNat)) ∨
      (k = 3 ∧ ws.length ≠ 18) ∨ (k = 4 ∧ ws.length ≠ 6) ∨ (k = 5 ∧ ws.length ≠ 9)) :
    classify (withCheck (k :: ws)) = .damaged := by
  have length : (withCheck (k :: ws)).length = ws.length + 2 := by simp
  obtain ⟨index, reports, carrier, service, reply⟩ := classify_kinds ws
  rcases bad with ⟨rfl, other⟩ | ⟨rfl, other⟩ | ⟨rfl, other⟩ | ⟨rfl, other⟩ | ⟨rfl, other⟩
  · rw [index, decodeIndex, if_neg (by omega)]
  · rw [reports, decodeReportFrame, if_neg]
    rintro ⟨few, whole⟩
    have long : 1 < ws.length := by omega
    have number : frameWord (withCheck (2 :: ws)) 2 = ws.getD 1 0 := by
      simp [frameWord, withCheck, List.getElem?_append_left long]
    rw [number] at few whole
    have : Config.maxReports = 12 := rfl
    omega
  · rw [carrier, if_neg (by omega)]
  · rw [service, if_neg (by omega)]
  · rw [reply, if_neg (by omega)]

/-- Settles O9: each kind by its lemma; the words of a SERVICE frame are read back, and a changed word no longer matches. -/
theorem framesReadFromWords : Obligations.FramesReadFromWords := by
  refine ⟨fun vent count x rest length => ⟨fun φ a phase code => ?_, fun bad => ?_⟩, fun vent rest length => ⟨?_, fun qs few =>
    classify_report vent length few⟩, fun w a b c n kind => decodeReport_kinds w a b c n kind, fun k ws => ⟨fun other => ?_,
    fun reply length => ?_, classify_badLength⟩, classify_serviceWords, fun ws i w read inside changed =>
    classify_changed read inside changed⟩
  · rw [classify_index vent count x length, decodeHead_some phase, decodeAdvance_code a code]
  · rw [classify_index vent count x length]
    rcases bad with above | none
    · rw [decodeHead_none above]
    · have unread : decodeAdvance x = Option.none := by rw [decodeAdvance, none]; rfl
      rw [unread]
      cases decodeHead (x.extractLsb' 0 5).toNat <;> rfl
  · obtain ⟨-, -, carrier, -⟩ := classify_kinds ([vent] ++ rest)
    refine carrier.trans (if_pos ?_)
    simp [length]
  · exact classify_unknown other ws
  · subst reply
    obtain ⟨-, -, -, -, replies⟩ := classify_kinds ws
    rw [replies, if_pos (by simp [length])]

end Sys2Proof.Machine
end

-- ==== Proofs: the bands, the dose, INFEED and MEASURE reports, the Park List and frames that pass ====
section
/-! PROOF. The trim factor and the dose (R64, R65); the causes of the five bands (R92); INFEED and MEASURE reports (R23, R82 to
R84); the application of the Park List (R113, R114); REPORT frames (R132) and frames that pass unchanged (R125 to R127). -/

namespace Sys2Proof.Machine

/-! ### The bands (R92) -/

theorem hasCause_addCauseIf_iff (c : Cause) (k : Option Cause) (x : CauseSet) :
    hasCause c (addCauseIf k x) = true ↔ k = some c ∨ hasCause c x = true := by
  cases k with
  | none => simp [addCauseIf]
  | some q =>
    rw [addCauseIf, hasCause_addCause, Bool.or_eq_true, beq_iff_eq, Option.some.injEq, or_comm, eq_comm]

/-- A band adds its own cause exactly when it is enforced and its check fails. -/
theorem bandCause_own {on : Bool} {passes : Option Bool} {own : Cause} (named : own ≠ .missingValue) :
    bandCause on passes own = some own ↔ on = true ∧ passes = some false := by
  unfold bandCause
  split
  next set =>
    split
    · simp [named.symm]
    · simp
    · simp [set]
  next clear => simp [clear]

theorem bandCause_missing {on : Bool} {passes : Option Bool} {own : Cause} (named : own ≠ .missingValue) :
    bandCause on passes own = some .missingValue ↔ on = true ∧ passes = none := by
  unfold bandCause
  split
  next set =>
    split
    · simp [set]
    · simp
    · simp [named]
  next clear => simp [clear]

theorem bandCause_other {on : Bool} {passes : Option Bool} {own c : Cause} (notOwn : c ≠ own)
    (notMissing : c ≠ .missingValue) : bandCause on passes own ≠ some c := by
  unfold bandCause
  split
  next =>
    split
    · simpa using notMissing.symm
    · simp
    · simpa using notOwn.symm
  next => simp

/-- Every cause the five bands leave, by the band that adds it. -/
theorem hasCause_bandCauses (s : State) (r : Record) (c : Cause) :
    hasCause c (bandCauses s r) = true ↔
      bandCause ((s.recipeWord r.recipe 5).getLsbD 0)
          (gasMassPasses r (s.recipeWord r.recipe 6) (s.recipeWord r.recipe 7)) .gasMass = some c ∨
      bandCause ((s.recipeWord r.recipe 5).getLsbD 1)
          (measurePasses r.height (s.recipeWord r.recipe 8) (s.recipeWord r.recipe 9)) .crimpHeight = some c ∨
      bandCause ((s.recipeWord r.recipe 5).getLsbD 2)
          (measurePasses r.diameter (s.recipeWord r.recipe 10) (s.recipeWord r.recipe 11)) .crimpDiameter = some c ∨
      bandCause ((s.recipeWord r.recipe 5).getLsbD 3)
          (chargeTimePasses r (s.recipeWord r.recipe 12) (s.recipeWord r.recipe 13)) .chargeTime = some c ∨
      bandCause ((s.recipeWord r.recipe 5).getLsbD 4) (overshootPasses r (s.recipeWord r.recipe 14)) .overshoot = some c ∨
      hasCause c r.causes = true := by
  simp only [bandCauses, enforced, hasCause_addCauseIf_iff]

/-! When each check fails, and when a field it needs is absent. -/

theorem gasMassPasses_iff (r : Record) (lo hi : Word) :
    (gasMassPasses r lo hi = some false ↔ ∃ g, r.gross = some g ∧
      ¬ ((lo.toNat : Int) ≤ (g.toNat : Int) - r.tare.toNat ∧ (g.toNat : Int) - r.tare.toNat ≤ hi.toNat)) ∧
    (gasMassPasses r lo hi = none ↔ r.gross = none) := by
  cases gross : r.gross <;> simp [gasMassPasses, gross, within]

theorem measurePasses_iff (v : Option Word) (lo hi : Word) :
    (measurePasses v lo hi = some false ↔ ∃ x, v = some x ∧ ¬ (lo.toNat ≤ x.toNat ∧ x.toNat ≤ hi.toNat)) ∧
    (measurePasses v lo hi = none ↔ v = none) := by
  cases v <;> simp [measurePasses, within]

theorem chargeTimePasses_iff (r : Record) (lo hi : Word) :
    (chargeTimePasses r lo hi = some false ↔ ∃ o c, r.captureOpen = some o ∧ r.captureClose = some c ∧
      ¬ (lo.toNat ≤ (c - o).toNat / 100 ∧ (c - o).toNat / 100 ≤ hi.toNat)) ∧
    (chargeTimePasses r lo hi = none ↔ r.captureOpen = none ∨ r.captureClose = none) := by
  unfold chargeTimePasses
  cases r.captureOpen with
  | none => simp
  | some o =>
    cases r.captureClose with
    | none => simp
    | some c =>
      simp [within, chargeTime, elapsed]
      omega

theorem overshootPasses_iff (r : Record) (limit : Word) :
    (overshootPasses r limit = some false ↔ ∃ d, r.doseLoaded = some d ∧ limit.toNat < r.pulses - d) ∧
    (overshootPasses r limit = none ↔ r.doseLoaded = none) := by
  cases dose : r.doseLoaded with
  | none => simp [overshootPasses, dose]
  | some d =>
    simp [overshootPasses, dose]
    omega

/-- Settles O22: each cause is read off the band that can add it. -/
theorem bandsAddCauses : Obligations.BandsAddCauses := by
  rintro s r w mask rfl rfl
  have gas := gasMassPasses_iff r (s.recipeWord r.recipe 6) (s.recipeWord r.recipe 7)
  have height := measurePasses_iff r.height (s.recipeWord r.recipe 8) (s.recipeWord r.recipe 9)
  have diameter := measurePasses_iff r.diameter (s.recipeWord r.recipe 10) (s.recipeWord r.recipe 11)
  have time := chargeTimePasses_iff r (s.recipeWord r.recipe 12) (s.recipeWord r.recipe 13)
  have overshoot := overshootPasses_iff r (s.recipeWord r.recipe 14)
  have none {on : Bool} {passes : Option Bool} {own c : Cause} (notOwn : c ≠ own) (notMissing : c ≠ .missingValue) :
      (bandCause on passes own = some c) = False := eq_false (bandCause_other notOwn notMissing)
  refine ⟨?_, ?_, ?_, ?_, ?_, ?_, ?_⟩
  · rw [hasCause_bandCauses, bandCause_own (by decide), gas.1]
    simp only [none (show Cause.gasMass ≠ .crimpHeight by decide) (by decide),
      none (show Cause.gasMass ≠ .crimpDiameter by decide) (by decide),
      none (show Cause.gasMass ≠ .chargeTime by decide) (by decide),
      none (show Cause.gasMass ≠ .overshoot by decide) (by decide), false_or]
    exact or_comm
  · rw [hasCause_bandCauses, bandCause_own (own := .crimpHeight) (by decide), height.1]
    simp only [none (show Cause.crimpHeight ≠ .gasMass by decide) (by decide),
      none (show Cause.crimpHeight ≠ .crimpDiameter by decide) (by decide),
      none (show Cause.crimpHeight ≠ .chargeTime by decide) (by decide),
      none (show Cause.crimpHeight ≠ .overshoot by decide) (by decide), false_or]
    exact or_comm
  · rw [hasCause_bandCauses, bandCause_own (own := .crimpDiameter) (by decide), diameter.1]
    simp only [none (show Cause.crimpDiameter ≠ .gasMass by decide) (by decide),
      none (show Cause.crimpDiameter ≠ .crimpHeight by decide) (by decide),
      none (show Cause.crimpDiameter ≠ .chargeTime by decide) (by decide),
      none (show Cause.crimpDiameter ≠ .overshoot by decide) (by decide), false_or]
    exact or_comm
  · rw [hasCause_bandCauses, bandCause_own (own := .chargeTime) (by decide), time.1]
    simp only [none (show Cause.chargeTime ≠ .gasMass by decide) (by decide),
      none (show Cause.chargeTime ≠ .crimpHeight by decide) (by decide),
      none (show Cause.chargeTime ≠ .crimpDiameter by decide) (by decide),
      none (show Cause.chargeTime ≠ .overshoot by decide) (by decide), false_or]
    exact or_comm
  · rw [hasCause_bandCauses, bandCause_own (own := .overshoot) (by decide), overshoot.1]
    simp only [none (show Cause.overshoot ≠ .gasMass by decide) (by decide),
      none (show Cause.overshoot ≠ .crimpHeight by decide) (by decide),
      none (show Cause.overshoot ≠ .crimpDiameter by decide) (by decide),
      none (show Cause.overshoot ≠ .chargeTime by decide) (by decide), false_or]
    exact or_comm
  · rw [hasCause_bandCauses, bandCause_missing (by decide), bandCause_missing (by decide), bandCause_missing (by decide),
      bandCause_missing (by decide), bandCause_missing (by decide), gas.2, height.2, diameter.2, time.2, overshoot.2]
    simp only [or_comm, or_left_comm]
  · intro q other
    simp only [List.mem_cons, List.not_mem_nil, or_false, not_or] at other
    obtain ⟨notGas, notHeight, notDiameter, notTime, notOvershoot, notMissing⟩ := other
    rw [Bool.eq_iff_iff, hasCause_bandCauses]
    simp only [none notGas notMissing, none notHeight notMissing, none notDiameter notMissing, none notTime notMissing,
      none notOvershoot notMissing, false_or]

/-! ### The dose (R64, R65) -/

/-- The row of a temperature: the highest in use whose BOUND it reaches. -/
theorem trimRowFor_eq {s : State} {x : Int} {i : Fin 16} (inUse : i.val < s.hu.trimRows.toNat)
    (reached : (s.hu.trim[i]).bound.toInt ≤ x)
    (last : ∀ j : Fin 16, i < j → j.val < s.hu.trimRows.toNat → x < (s.hu.trim[j]).bound.toInt) :
    trimRowFor s x = some i := by
  have ordered : ((List.finRange 16).filter
      (fun r => decide (r.val < s.hu.trimRows.toNat ∧ (s.hu.trim[r]).bound.toInt ≤ x))).Pairwise (· < ·) :=
    (List.pairwise_lt_finRange 16).filter _
  have mem : i ∈ (List.finRange 16).filter
      (fun r => decide (r.val < s.hu.trimRows.toNat ∧ (s.hu.trim[r]).bound.toInt ≤ x)) := by
    rw [List.mem_filter]
    exact ⟨List.mem_finRange i, decide_eq_true ⟨inUse, reached⟩⟩
  have only {j : Fin 16} (listed : j ∈ (List.finRange 16).filter
      (fun r => decide (r.val < s.hu.trimRows.toNat ∧ (s.hu.trim[r]).bound.toInt ≤ x))) : ¬ i < j := by
    intro later
    obtain ⟨used, below⟩ := of_decide_eq_true (List.mem_filter.mp listed).2
    have := last j later used
    omega
  obtain ⟨front, back, rows⟩ := List.append_of_mem mem
  rw [rows] at ordered
  have empty : back = [] := by
    cases back with
    | nil => rfl
    | cons j rest =>
      have later : i < j := (List.pairwise_cons.mp (List.pairwise_append.mp ordered).2.1).1 j (List.mem_cons_self ..)
      exact absurd later (only (rows ▸ List.mem_append_right _ (List.mem_cons_of_mem _ (List.mem_cons_self ..))))
  rw [trimRowFor, rows, empty, List.getLast?_concat]

theorem trimRowFor_none {s : State} {x : Int}
    (above : ∀ j : Fin 16, j.val < s.hu.trimRows.toNat → x < (s.hu.trim[j]).bound.toInt) : trimRowFor s x = none := by
  have none : (List.finRange 16).filter
      (fun r => decide (r.val < s.hu.trimRows.toNat ∧ (s.hu.trim[r]).bound.toInt ≤ x)) = [] := by
    rw [List.filter_eq_nil_iff]
    intro j _ listed
    obtain ⟨used, below⟩ := of_decide_eq_true listed
    have := above j used
    omega
  rw [trimRowFor, none]
  rfl

/-- Settles O30: the factor by the cases of R64 in order, and the dose by R65. -/
theorem doseIsTrimmed : Obligations.DoseIsTrimmed := by
  intro s r
  refine ⟨?_, ?_, ?_, ?_, ?_⟩
  · rintro (off | noRows)
    · rw [trimFactor, if_pos off]
    · simp only [trimFactor, noRows, if_true, ite_self]
  · intro on rows absent
    rw [trimFactor, if_neg on, if_neg rows, absent]
  · intro x i on temperature inUse reached last
    have rows : s.hu.trimRows ≠ 0 := by
      intro none
      rw [none] at inUse
      cases inUse
    rw [trimFactor, if_neg on, if_neg rows, temperature]
    simp only [trimRowFor_eq inUse reached last]
  · intro x on rows temperature above
    rw [trimFactor, if_neg on, if_neg rows, temperature]
    simp only [trimRowFor_none above]
  · simp only [trimmedDose]
    split <;> omega

/-! ### INFEED and MEASURE reports, and reports for no head (R23, R56, R70, R82 to R84) -/

theorem takeMeasure_placed {k : MeasureKind} {ok : Bool} {slot serial v : Word} {p : Fin 64} (place : slot.toNat = p.val)
    (s : State) : takeReport s (.measure (some k) ok slot serial v) = deliverMeasure k ok p serial v s := by
  have named : decodeSlot slot.toNat = some p := by
    rw [place]
    simp [decodeSlot]
  simp only [takeReport, takeMeasure, named]

theorem takeMeasure_beyond {slot : Word} (beyond : 63 < slot.toNat) (k : Option MeasureKind) (ok : Bool) (serial v : Word)
    (s : State) : takeReport s (.measure k ok slot serial v) = raiseAlert .staleReport s := by
  have none : decodeSlot slot.toNat = none := dif_neg (by omega)
  simp only [takeReport, takeMeasure, none]

/-- Settles O29: each report by what it names. -/
theorem infeedAndMeasureReports : Obligations.InfeedAndMeasureReports := by
  refine ⟨fun codePresent temperaturePresent product tare temperature s => ?_, fun k ok slot serial v s =>
    ⟨fun p place loaded same => ?_, fun p place final same => ?_, fun stale => ?_, rfl, fun w lag e none => ?_,
      fun w n above => ?_⟩⟩
  · simp only [takeReport, takeInfeed, candidateTemperature, Bool.and_eq_true, decide_eq_true_eq]
  · rw [takeMeasure_placed place]
    unfold deliverMeasure
    dsimp only
    rw [if_pos ⟨same, loaded⟩]
    cases k <;> rfl
  · rw [takeMeasure_placed place]
    unfold deliverMeasure
    dsimp only
    rw [if_neg (by simp [final]), if_pos ⟨same, final⟩]
    rfl
  · rcases stale with beyond | ⟨p, place, other⟩
    · rw [takeMeasure_beyond beyond]
      rfl
    · have notLoaded : ¬ ((s.record p).serial = serial ∧ (s.record p).state = .loaded) := by
        rcases other with empty | serial' <;> simp_all
      have notFinal : ¬ ((s.record p).serial = serial ∧ (s.record p).state = .final) := by
        rcases other with empty | serial' <;> simp_all
      rw [takeMeasure_placed place]
      unfold deliverMeasure
      dsimp only
      rw [if_neg notLoaded, if_neg notFinal]
      rfl
  · show takeEvent w e lag s = raiseAlert .strayEvent s
    unfold takeEvent
    rcases none with above | rfl
    · rw [decodeHead_none above]
    · cases decodeHead w.toNat <;> rfl
  · show takeFlow w n s = raiseAlert .strayFlow s
    rw [takeFlow, decodeHead_none above]

/-! ### REPORT frames and frames that pass (R125 to R127, R132) -/

/-- Settles O24: the arrival out of bypass, whose reports leave the frames in transit as they were. -/
theorem reportsTakenInOrder : Obligations.ReportsTakenInOrder := by
  rintro ws f u s read awake rfl
  have arrival : exec (.reportFrame ws) s = .next (frameArrival ws s) := rfl
  have transit : (f.reports.foldl takeReport (takeVent f.vent (restartGap s))).lp.transit = s.lp.transit := by
    have fixed := foldl_fixed takeReport_fixed f.reports (takeVent f.vent (restartGap s))
    rw [takeVent_fixed] at fixed
    exact (fixed_parts fixed).2.2.2.2.1
  rw [arrival, frameArrival_awake awake, awake_report read, takeReportFrame, putTransit, transit]
  rfl

theorem frameArrival_passes {ws : List Word} {s : State} (passes : s.linkHeld = true ∨
    (s.nc.mode = .waitSync ∧ ∀ f, classify ws = .service f → s.addressed f = false)) :
    frameArrival ws s = passBypass ws s := by
  cases held : s.linkHeld with
  | true => exact frameArrival_held held ws
  | false =>
    obtain ⟨wait, foreign⟩ := passes.resolve_left (by simp [held])
    rw [frameArrival_wait held wait, waitArrival]
    cases read : classify ws with
    | service f => simp [foreign f read]
    | _ => rfl

/-- Settles O7: in bypass by the mode, out of bypass by the class of the frame. -/
theorem framesPassUnchanged : Obligations.FramesPassUnchanged := by
  refine ⟨fun s => ⟨linkHeld_iff s, bypassed_iff s, fun f => by simp [State.addressed]⟩, fun ws s =>
    ⟨fun c listed passes => ?_, fun awake => ⟨fun f read foreign => ?_, fun read => ?_, fun read => ?_⟩⟩⟩
  · have arrival : exec c s = .next (frameArrival ws s) := by
      simp only [List.mem_cons, List.not_mem_nil, or_false] at listed
      rcases listed with rfl | rfl | rfl | rfl | rfl | rfl | rfl | rfl <;> rfl
    rw [arrival, frameArrival_passes passes, passBypass_eq]
  · show Host.Outcome.next (frameArrival ws s) = _
    rw [frameArrival_awake awake, awake_service read, foreign]
    rfl
  · show Host.Outcome.next (frameArrival ws s) = _
    rw [frameArrival_awake awake, awake_reply read]
    rfl
  · show Host.Outcome.next (frameArrival ws s) = _
    rw [frameArrival_awake awake, awake_unknown read]
    rfl

/-! ### The application of the Park List (R113, R114) -/

theorem recipeIndex_inj {k j : Fin 8} {w v : Fin 16} (same : (recipeIndex k w).val = (recipeIndex j v).val) :
    k = j ∧ w = v := by
  simp only [recipeIndex] at same
  exact ⟨Fin.ext (by omega), Fin.ext (by omega)⟩

theorem storeEntry_word (words : Vector Word 128) (e : ParkEntry) (k : Fin 8) (w : Fin 16) :
    (storeEntry words e)[recipeIndex k w] = if (e.slot == k && e.word == w) = true then e.value
      else words[recipeIndex k w] := by
  simp only [storeEntry, Fin.getElem_fin, Vector.getElem_set]
  by_cases own : e.slot = k ∧ e.word = w
  · obtain ⟨rfl, rfl⟩ := own
    simp
  · have away : ¬ (recipeIndex e.slot e.word).val = (recipeIndex k w).val := fun same => own (recipeIndex_inj same)
    have notOwn : ¬ ((e.slot == k && e.word == w) = true) := by simpa using own
    rw [if_neg away, if_neg notOwn]

/-- Of the entries stored in order, the last for a word stands. -/
theorem foldl_storeEntry_word (es : List ParkEntry) (words : Vector Word 128) (k : Fin 8) (w : Fin 16) :
    (es.foldl storeEntry words)[recipeIndex k w] =
      (((es.filter (fun e => e.slot == k && e.word == w)).getLast?).map ParkEntry.value).getD words[recipeIndex k w] := by
  induction es generalizing words with
  | nil => rfl
  | cons e es ih =>
    rw [List.foldl_cons, ih, storeEntry_word, List.filter_cons]
    split
    · rw [List.getLast?_cons]
      cases (es.filter (fun e => e.slot == k && e.word == w)).getLast? <;> rfl
    · rfl

/-- Settles O51: the entries below the mark are the ones outside the scope. -/
theorem applicationStoresAndRemoves : Obligations.ApplicationStoresAndRemoves := by
  intro rs slots bounded below inside gone parted atMark noScope named
  have outside : rs.outside = below.length := by
    unfold RecipeStore.outside
    cases open_ : rs.scope with
    | none => simp [← parted, noScope open_]
    | some m => exact (atMark m open_).symm
  have taken : rs.parkList.take rs.outside = below := by rw [outside, ← parted, List.take_left']; rfl
  have left : rs.parkList.drop rs.outside = inside := by rw [outside, ← parted, List.drop_left']; rfl
  have applied : below.filter (rs.applies slots) = gone := named.symm
  refine ⟨?_, ?_, rfl, fun k w => ?_⟩
  · simp only [RecipeStore.applyParked, taken, left]
    rfl
  · simp only [RecipeStore.applyParked, taken, applied]
  · simp only [RecipeStore.applyParked, taken, applied]
    exact foldl_storeEntry_word gone rs.words k w

end Sys2Proof.Machine
end

-- ==== Proofs: departures and DWELL advances ====
section
/-! PROOF. What leaves with a frame and what its commands do at their departure (R125, R137, R138, R67, R48), the bits of the node
status slot and of a command entry (R138, R165), and the DWELL advance (R16). -/

namespace Sys2Proof.Machine

/-! ### One command's departure -/

/-- A head after the departure of one of its commands (R67, R48). -/
def State.departed (s : State) (x : HeadContext) (k : CommandKind) : HeadContext :=
  match k with
  | .openGas =>
    match x.bound with
    | some l => { x with timer := some ⟨s.clock, (s.recipeWord (s.record l.slot).recipe 3).toNat * 100⟩ }
    | none => x
  | .abort => if x.state = .aborting then { x with state := freeState x } else x
  | .engage | .closeGas | .crimp | .release => x

theorem commandDeparts_eq (s : State) (c : HeadCommand) :
    commandDeparts s c = s.setHead c.head (s.departed (s.head c.head) c.kind) := by
  have self : s.setHead c.head (s.head c.head) = s :=
    eq_of_heads rfl fun h => by rw [head_setHead]; split <;> simp_all
  cases kind : c.kind with
  | openGas =>
    rcases Option.eq_none_or_eq_some (s.head c.head).bound with none | ⟨l, bound⟩
    · simp only [commandDeparts, kind, armTimer, State.departed, none, self]
    · simp only [commandDeparts, kind, armTimer, State.departed, bound]
  | abort =>
    by_cases aborting : (s.head c.head).state = .aborting
    · simp only [commandDeparts, kind, abortDeparts, State.departed, aborting, if_true]
    · simp only [commandDeparts, kind, abortDeparts, State.departed, aborting, if_false, self]
  | _ => simp only [commandDeparts, kind, State.departed, self]

theorem head_commandDeparts (s : State) (c : HeadCommand) (h : Fin 24) : (commandDeparts s c).head h =
    if c.head = h then s.departed (s.head h) c.kind else s.head h := by
  rw [commandDeparts_eq, head_setHead]
  by_cases own : c.head = h
  · rw [if_pos own, if_pos own.symm, own]
  · rw [if_neg own, if_neg (Ne.symm own)]

/-- Departures change heads alone. -/
theorem foldl_commandDeparts_eq (cs : List HeadCommand) (s : State) : cs.foldl commandDeparts s =
    { s with hu.heads := (cs.foldl commandDeparts s).hu.heads } := by
  induction cs generalizing s with
  | nil => rfl
  | cons c cs ih =>
    rw [List.foldl_cons, ih, commandDeparts_eq]
    rfl

/-- A head after several departures: its own commands, one after the other. -/
theorem head_foldl_commandDeparts (cs : List HeadCommand) (s : State) (h : Fin 24) :
    (cs.foldl commandDeparts s).head h =
      ((cs.filter (fun c => c.head == h)).map HeadCommand.kind).foldl s.departed (s.head h) := by
  induction cs generalizing s with
  | nil => rfl
  | cons c cs ih =>
    have same : (commandDeparts s c).departed = s.departed := by rw [commandDeparts_eq]; rfl
    rw [List.foldl_cons, ih, same, head_commandDeparts, List.filter_cons]
    by_cases own : c.head = h
    · rw [if_pos own, if_pos (by simpa using own), List.map_cons, List.foldl_cons]
    · rw [if_neg own, if_neg (by simpa using own)]

/-! ### What the departures make of a head -/

theorem departed_still {s : State} {x : HeadContext} (unbound : x.bound = none) (settled : x.state ≠ .aborting)
    (ks : List CommandKind) : ks.foldl s.departed x = x := by
  induction ks with
  | nil => rfl
  | cons k ks ih =>
    have same : s.departed x k = x := by cases k <;> simp [State.departed, unbound, settled]
    rw [List.foldl_cons, same, ih]

theorem freeState_ne_aborting (x : HeadContext) : freeState x ≠ .aborting := by
  unfold freeState
  split <;> decide

theorem departed_aborting {s : State} {x : HeadContext} (unbound : x.bound = none) (aborting : x.state = .aborting)
    (ks : List CommandKind) : ks.foldl s.departed x = if .abort ∈ ks then { x with state := freeState x } else x := by
  induction ks with
  | nil => rfl
  | cons k ks ih =>
    rw [List.foldl_cons]
    by_cases abort : k = .abort
    · subst abort
      have freed : s.departed x .abort = { x with state := freeState x } := by simp [State.departed, aborting]
      have still := departed_still (s := s) (x := { x with state := freeState x }) unbound (freeState_ne_aborting x) ks
      rw [freed, still, if_pos (List.mem_cons_self ..)]
    · have same : s.departed x k = x := by cases k <;> simp_all [State.departed]
      rw [same, ih]
      simp [Ne.symm abort]

theorem departed_bound {s : State} {x : HeadContext} {l : Link} (bound : x.bound = some l) (cycling : x.state ≠ .aborting)
    (ks : List CommandKind) : ks.foldl s.departed x = if .openGas ∈ ks
      then { x with timer := some ⟨s.clock, (s.recipeWord (s.record l.slot).recipe 3).toNat * 100⟩ } else x := by
  induction ks generalizing x with
  | nil => rfl
  | cons k ks ih =>
    rw [List.foldl_cons]
    by_cases opens : k = .openGas
    · subst opens
      have armed : s.departed x .openGas =
          { x with timer := some ⟨s.clock, (s.recipeWord (s.record l.slot).recipe 3).toNat * 100⟩ } := by
        simp only [State.departed, bound]
      have rest := ih (x := { x with
        timer := some ⟨s.clock, (s.recipeWord (s.record l.slot).recipe 3).toNat * 100⟩ }) bound cycling
      rw [armed, rest, if_pos (List.mem_cons_self ..), ite_self]
    · have same : s.departed x k = x := by cases k <;> simp_all [State.departed]
      rw [same, ih bound cycling]
      simp [Ne.symm opens]

theorem mem_kinds_iff (cs : List HeadCommand) (h : Fin 24) (k : CommandKind) :
    k ∈ (cs.filter (fun c => c.head == h)).map HeadCommand.kind ↔ ∃ c ∈ cs, c.head = h ∧ c.kind = k := by
  simp only [List.mem_map, List.mem_filter, beq_iff_eq, and_assoc]

/-! ### The node status slot and the command entry (R138, R165) -/

theorem length_entries (cs : List HeadCommand) : (cs.flatMap HeadCommand.entry).length = 2 * cs.length := by
  induction cs with
  | nil => rfl
  | cons c cs ih =>
    rw [List.flatMap_cons, List.length_append, ih, List.length_cons]
    simp only [HeadCommand.entry, List.length_cons, List.length_nil]
    omega

theorem statusSlot_bits (s : State) :
    s.statusSlot.extractLsb' 0 2 = (match s.nc.mode with
      | .waitSync => 0 | .standby => 0 | .run => 1 | .drain => 2 | .trip => 3) ∧
    (s.statusSlot.getLsbD 2 = true ↔ s.nc.busy ≠ .idle) ∧ (s.statusSlot.getLsbD 3 = true ↔ s.nc.alerts ≠ 0) ∧
    s.statusSlot.extractLsb' 4 3 = (match s.nc.tripCause with
      | none => 0 | some .vent => 1 | some .linkGap => 2 | some .trackLost => 3 | some .queueFull => 4) ∧
    s.statusSlot.extractLsb' 7 9 = 0 := by
  have mode : s.nc.mode.code < 4 := by cases s.nc.mode <;> decide
  have cause : tripCauseCode s.nc.tripCause < 5 := by
    rcases s.nc.tripCause with _ | c
    · decide
    · cases c <;> decide
  have busy := flagBit_le s.nc.busy.running
  have alert := flagBit_le (s.nc.alerts != 0)
  have modeIs : (match s.nc.mode with
      | .waitSync => (0 : BitVec 2) | .standby => 0 | .run => 1 | .drain => 2 | .trip => 3).toNat = s.nc.mode.code := by
    cases s.nc.mode <;> rfl
  have causeIs : (match s.nc.tripCause with
      | none => (0 : BitVec 3) | some .vent => 1 | some .linkGap => 2 | some .trackLost => 3
      | some .queueFull => 4).toNat = tripCauseCode s.nc.tripCause := by
    rcases s.nc.tripCause with _ | c
    · rfl
    · cases c <;> rfl
  have busyBit : s.statusSlot.getLsbD 2 = s.nc.busy.running := bit_ofNat 2 (by omega) (by omega)
  have alertBit : s.statusSlot.getLsbD 3 = (s.nc.alerts != 0) := bit_ofNat 3 (by omega) (by omega)
  refine ⟨?_, ?_, ?_, ?_, ?_⟩
  · apply BitVec.eq_of_toNat_eq
    rw [State.statusSlot, extract_ofNat _ _ (by omega), modeIs]
    omega
  · rw [busyBit]
    cases s.nc.busy <;> simp [BusyOp.running]
  · rw [alertBit]
    simp
  · apply BitVec.eq_of_toNat_eq
    rw [State.statusSlot, extract_ofNat _ _ (by omega), causeIs]
    omega
  · apply BitVec.eq_of_toNat_eq
    rw [State.statusSlot, extract_ofNat _ _ (by omega), show (0 : BitVec 9).toNat = 0 from rfl]
    omega

theorem entry_bits (c : HeadCommand) : ∃ w, c.entry = [w, c.argument] ∧ (w.extractLsb' 0 5).toNat = c.head.val ∧
    w.extractLsb' 5 3 = 0 ∧ w.extractLsb' 8 3 = (match c.kind with
      | .engage => 1 | .openGas => 2 | .closeGas => 3 | .crimp => 4 | .release => 5 | .abort => 6) ∧
    w.extractLsb' 11 5 = 0 := by
  have head := c.head.isLt
  have kind : c.kind.code < 7 := by cases c.kind <;> decide
  have kindIs : (match c.kind with
      | .engage => (1 : BitVec 3) | .openGas => 2 | .closeGas => 3 | .crimp => 4 | .release => 5
      | .abort => 6).toNat = c.kind.code := by cases c.kind <;> rfl
  refine ⟨_, rfl, ?_, ?_, ?_, ?_⟩
  · rw [extract_ofNat _ _ (by omega)]
    omega
  · apply BitVec.eq_of_toNat_eq
    rw [extract_ofNat _ _ (by omega), show (0 : BitVec 3).toNat = 0 from rfl]
    omega
  · apply BitVec.eq_of_toNat_eq
    rw [extract_ofNat _ _ (by omega), kindIs]
    omega
  · apply BitVec.eq_of_toNat_eq
    rw [extract_ofNat _ _ (by omega), show (0 : BitVec 5).toNat = 0 from rfl]
    omega

/-! ### The departure of a frame -/

theorem departOldest_of {s : State} {x : TransitFrame} {rest : List TransitFrame} (transit : s.lp.transit = x :: rest) :
    departOldest s = departFrame x { s with lp.transit := rest } := by
  simp only [departOldest, transit]

theorem departCommands_eq (s : State) : departCommands s = { s with
    lp.queue := s.lp.queue.drop 8
    hu.heads := ((s.lp.queue.take 8).foldl commandDeparts { s with lp.queue := s.lp.queue.drop 8 }).hu.heads } :=
  foldl_commandDeparts_eq (s.lp.queue.take 8) { s with lp.queue := s.lp.queue.drop 8 }

theorem head_departCommands (s : State) (h : Fin 24) : (departCommands s).head h =
    (((s.lp.queue.take 8).filter (fun c => c.head == h)).map HeadCommand.kind).foldl s.departed (s.head h) :=
  head_foldl_commandDeparts (s.lp.queue.take 8) { s with lp.queue := s.lp.queue.drop 8 } h

/-- Settles O10: an aborting head has no bound record, so that of a head's departing commands only one kind can act. -/
theorem departureSendsCommands : Obligations.DepartureSendsCommands := by
  refine ⟨fun lead rest s transit legal => ?_, fun ws rest s => ⟨fun transit => ?_, fun transit => ?_, fun none => ?_⟩,
    statusSlot_bits, entry_bits⟩
  · have leaves : exec .frameDeparture s = .next (departFrame (.accepted lead) { s with lp.transit := rest }) :=
      congrArg _ (departOldest_of transit)
    have heads (h : Fin 24) : (departFrame (.accepted lead) { s with lp.transit := rest }).head h =
        (((s.lp.queue.take 8).filter (fun c => c.head == h)).map HeadCommand.kind).foldl s.departed (s.head h) :=
      head_departCommands { s with lp.transit := rest } h
    have unbound {h : Fin 24} (aborting : (s.head h).state = .aborting) : (s.head h).bound = none := by
      have := legal.bound h
      simpa [aborting, HeadState.isBound] using this.symm
    refine ⟨_, leaves, ?_, fun h aborted aborting => ?_, fun h l opened bound => ?_, fun h noAbort noOpen => ?_⟩
    · rw [departFrame, departCommands_eq]
      simp only [commandArea, length_entries]
      rfl
    · rw [heads, departed_aborting (unbound aborting) aborting, if_pos ((mem_kinds_iff _ h _).mpr aborted)]
      rfl
    · have cycling : (s.head h).state ≠ .aborting := fun aborting => by simp [unbound aborting] at bound
      rw [heads, departed_bound bound cycling, if_pos ((mem_kinds_iff _ h _).mpr opened)]
    · rw [heads]
      by_cases aborting : (s.head h).state = .aborting
      · rw [departed_aborting (unbound aborting) aborting, if_neg]
        exact fun listed => noAbort ⟨(mem_kinds_iff _ h _).mp listed, aborting⟩
      · cases bound : (s.head h).bound with
        | none => rw [departed_still bound aborting]
        | some l =>
          rw [departed_bound bound aborting, if_neg]
          exact fun listed => noOpen ⟨(mem_kinds_iff _ h _).mp listed, by simp [bound]⟩
  · exact congrArg _ (departOldest_of transit)
  · exact congrArg _ (departOldest_of transit)
  · show Host.Outcome.next (departOldest s) = _
    simp [departOldest, none]

/-! ### INDEX frames that follow, and DWELL advances (R16, R133) -/

theorem turretMatches_iff (s : State) (f : IndexFrame) : s.turretMatches f = true ↔
    f.count = expectedCount f.advance s.lp.lastCount ∧ f.phase = expectedPhase f.advance s.lp.lastPhase := by
  simp [State.turretMatches]

theorem turretCheck_match {s : State} {f : IndexFrame} (found : s.lp.unchecked = true ∨
    (f.count = expectedCount f.advance s.lp.lastCount ∧ f.phase = expectedPhase f.advance s.lp.lastPhase)) :
    turretCheck f s = adopt f s := by
  rw [turretCheck, if_neg]
  rintro ⟨checked, mismatch⟩
  rcases found with unchecked | same
  · simp [unchecked] at checked
  · simp [(turretMatches_iff s f).mpr same] at mismatch

/-- An INDEX frame that follows is adopted, and its advance taken. -/
theorem exec_indexFrame {ws : List Word} {f : IndexFrame} {s : State} (read : classify ws = .index f)
    (awake : s.bypassed = false) : exec (.indexFrame ws) s = .next (takeIndex f ws (restartGap s)) := by
  show Host.Outcome.next (frameArrival ws s) = _
  rw [frameArrival_awake awake, awake_index read]

theorem takeIndex_follows {ws : List Word} {f : IndexFrame} {s : State} (follows : s.follows f) :
    takeIndex f ws (restartGap s) =
      putTransit (.accepted (indexLead ws (takeAdvance f.advance f.phase (adopt f (restartGap s))).1))
        (takeAdvance f.advance f.phase (adopt f (restartGap s))).2 := by
  obtain ⟨noVent, found⟩ := follows
  have adopted : takeVent f.vent (turretCheck f (restartGap s)) = adopt f (restartGap s) := by
    rw [turretCheck_match (s := restartGap s) found, takeVent, noVent]
    rfl
  rw [takeIndex, adopted]

theorem stationTag_cases (p : Nat) (s : State) :
    (63 < p → s.stationTag p = none) ∧
    (p ≤ 63 → (s.record (s.slotAt p)).state = .empty → s.stationTag p = none) ∧
    (p ≤ 63 → (s.record (s.slotAt p)).state ≠ .empty →
      s.stationTag p = some ⟨s.slotAt p, (s.record (s.slotAt p)).serial⟩) := by
  refine ⟨fun beyond => ?_, fun track empty => ?_, fun track there => ?_⟩
  · simp only [State.stationTag, State.slotAtStation, if_neg beyond.not_ge]
  · simp only [State.stationTag, State.slotAtStation, if_pos track, if_pos empty]
  · simp only [State.stationTag, State.slotAtStation, if_pos track, if_neg there]
    rfl

/-- Settles O11: the advance of a DWELL reports the ring, and by the hypothesis ends no drain. -/
theorem dwellMovesNothing : Obligations.DwellMovesNothing := by
  refine ⟨fun ws f s read dwell awake follows stays => ?_, stationTag_cases, rfl, fun l => rfl⟩
  have still : endDrain (reportRing (adopt f (restartGap s))) = reportRing (adopt f (restartGap s)) := if_neg stays
  have slots : (takeAdvance .dwell f.phase (adopt f (restartGap s))).1 =
    ⟨false, none, s.stationTag s.stationK, s.stationTag s.stationW⟩ := rfl
  rw [exec_indexFrame read awake, takeIndex_follows follows, dwell, State.Accounted.takeAdvance_dwell, still, slots]
  rfl

end Sys2Proof.Machine
end

-- ==== Proofs: the trip entry ====
section
/-! PROOF. What the trip entry makes of every head and record (R147), in any state whose links name LOADED records and whose bound
records are linked. -/

namespace Sys2Proof.Machine

/-- The ties a trip entry relies on: the bound states are those with a link, a link names a LOADED record, and a bound record is
linked by its tag. -/
structure State.Tied (s : State) : Prop where
  bound : ∀ h, (s.head h).state.isBound = (s.head h).bound.isSome
  named : ∀ h l, (s.head h).bound = some l → s.namesLoaded l = true
  owned : ∀ k, (s.record k).bound = true → ∃ h, (s.head h).bound = some (s.tagOf k)

theorem namesLoaded_iff {s : State} {l : Link} :
    s.namesLoaded l = true ↔ (s.record l.slot).state = .loaded ∧ (s.record l.slot).serial = l.serial := by
  simp only [State.namesLoaded, Bool.and_eq_true, beq_iff_eq]

theorem State.Joined.tied {s : State} (j : s.Joined) : s.Tied where
  bound := j.heads.bound
  named h l bound := (j.joinedHead h l bound).1
  owned k bound := by
    obtain ⟨-, h, -, link⟩ := j.joinedRecord k bound
    exact ⟨h, link⟩

/-! ### Unbinding a head from the record its link names -/

/-- The records after an unbinding. -/
theorem record_unbind {h : Fin 24} {l : Link} {s : State} (bound : (s.head h).bound = some l)
    (named : s.namesLoaded l = true) (k : Fin 64) :
    (unbind h s).record k = if k = l.slot then { s.record k with bound := false } else s.record k := by
  have still : (s.setHead h { s.head h with bound := none, trailing := some l }).namesLoaded l = true := named
  rw [unbind_bound bound, record_writeLoaded]
  by_cases own : k = l.slot
  · rw [if_pos ⟨own, still⟩, if_pos own, own]
    rfl
  · rw [if_neg (fun both => own both.1), if_neg own]
    rfl

theorem tagOf_unbind {h : Fin 24} {l : Link} {s : State} (bound : (s.head h).bound = some l)
    (named : s.namesLoaded l = true) (k : Fin 64) : (unbind h s).tagOf k = s.tagOf k := by
  rw [State.tagOf, State.tagOf, record_unbind bound named]
  split <;> rfl

/-! ### The heads of a trip entry, one by one -/

/-- A head after the trip entry (R147), but for the timers that it disarms. -/
def HeadContext.tripped (c : HeadContext) : HeadContext :=
  if c.state.isBound = true then { c with state := .aborting, bound := none, trailing := c.bound, timer := none } else c

theorem tripped_free {c : HeadContext} (bound : c.state.isBound = c.bound.isSome) :
    c.tripped.state.isBound = false ∧ c.tripped.bound = none := by
  unfold HeadContext.tripped
  split
  next => exact ⟨rfl, rfl⟩
  next free =>
    have none : c.bound.isSome = false := by rw [← bound]; simpa using free
    exact ⟨by simpa using free, by simpa using none⟩

theorem tripped_bound {c : HeadContext} (bound : c.state.isBound = true) :
    c.tripped = { c with state := .aborting, bound := none, trailing := c.bound, timer := none } := if_pos bound

theorem tripped_unbound {c : HeadContext} (free : ¬ c.state.isBound = true) : c.tripped = c := if_neg free

theorem tripped_tripped (c : HeadContext) : c.tripped.tripped = c.tripped := by
  refine tripped_unbound ?_
  by_cases bound : c.state.isBound = true
  · rw [tripped_bound bound]
    exact Bool.false_ne_true
  · rwa [tripped_unbound bound]

namespace State.Tied

theorem link {s : State} (t : s.Tied) {h : Fin 24} (state : (s.head h).state.isBound = true) :
    ∃ l, (s.head h).bound = some l := Option.isSome_iff_exists.mp ((t.bound h).symm.trans state)

theorem head_tripHead {s : State} (t : s.Tied) (h j : Fin 24) :
    (tripHead s h).head j = if j = h then (s.head j).tripped else s.head j := by
  unfold tripHead HeadContext.tripped
  by_cases state : (s.head h).state.isBound = true
  · obtain ⟨l, bound⟩ := t.link state
    rw [if_pos state, head_leaveTo, head_unbind, head_unbind]
    by_cases own : j = h
    · subst own
      simp [bound, state]
    · simp [own]
  · rw [if_neg state]
    by_cases own : j = h
    · subst own
      simp [state]
    · simp [own]

/-- Taking one head keeps the ties and, of the records, can only unbind. -/
theorem tripHead {s : State} (t : s.Tied) (h : Fin 24) : (tripHead s h).Tied ∧
    ∀ k, (tripHead s h).record k = s.record k ∨ (tripHead s h).record k = { s.record k with bound := false } := by
  have heads := t.head_tripHead h
  have grows := (Quiet.tripHead (C := onlyFull) s h).grows
  have same (k : Fin 64) : (Machine.tripHead s h).tagOf k = s.tagOf k := by
    rw [State.tagOf, State.tagOf, (grows k).serial]
  refine ⟨⟨fun j => ?_, fun j l bound => ?_, fun k bound => ?_⟩, fun k => ?_⟩
  · rw [heads]
    split
    · obtain ⟨state, none⟩ := tripped_free (t.bound j)
      rw [state, none]
      rfl
    · exact t.bound j
  · rw [heads] at bound
    split at bound
    · rw [(tripped_free (t.bound j)).2] at bound
      cases bound
    · rw [namesLoaded_iff, (grows l.slot).state, (grows l.slot).serial]
      exact namesLoaded_iff.mp (t.named j l bound)
  · have was : (s.record k).bound = true ∧ ¬ ((s.head h).bound = some (s.tagOf k) ∧ (s.head h).state.isBound = true) := by
      unfold Machine.tripHead at bound
      split at bound
      next state =>
        obtain ⟨l, link⟩ := t.link state
        rw [leaveTo_record, record_unbind link (t.named h l link)] at bound
        split at bound
        · cases bound
        next away =>
          refine ⟨bound, fun both => away ?_⟩
          have e : l = s.tagOf k := Option.some.inj (link.symm.trans both.1)
          rw [e]
          rfl
      next free => exact ⟨bound, fun both => free both.2⟩
    obtain ⟨j, link⟩ := t.owned k was.1
    refine ⟨j, ?_⟩
    rw [heads, same]
    split
    next own =>
      subst own
      exact absurd ⟨link, (t.bound j).trans (by rw [link]; rfl)⟩ was.2
    next => exact link
  · unfold Machine.tripHead
    split
    next state =>
      obtain ⟨l, link⟩ := t.link state
      rw [leaveTo_record, record_unbind link (t.named h l link)]
      split
      · exact .inr rfl
      · exact .inl rfl
    next => exact .inl rfl

theorem foldl_tripHead {s : State} (t : s.Tied) (hs : List (Fin 24)) : (hs.foldl Machine.tripHead s).Tied ∧
    (∀ j, (hs.foldl Machine.tripHead s).head j = if j ∈ hs then (s.head j).tripped else s.head j) ∧
    ∀ k, (hs.foldl Machine.tripHead s).record k = s.record k ∨
      (hs.foldl Machine.tripHead s).record k = { s.record k with bound := false } := by
  induction hs generalizing s with
  | nil => exact ⟨t, fun j => by simp, fun k => .inl rfl⟩
  | cons h hs ih =>
    obtain ⟨tied, records⟩ := t.tripHead h
    obtain ⟨all, heads, rest⟩ := ih tied
    refine ⟨all, fun j => ?_, fun k => ?_⟩
    · rw [List.foldl_cons, heads, t.head_tripHead]
      by_cases own : j = h
      · subst own
        simp [tripped_tripped]
      · simp [own]
    · rw [List.foldl_cons]
      rcases rest k with same | unbound <;> rcases records k with same' | unbound'
      · exact .inl (same.trans same')
      · exact .inr (same.trans unbound')
      · exact .inr (by rw [unbound, same'])
      · exact .inr (by rw [unbound, unbound'])

/-- After all heads none is bound, nor any record. -/
theorem tripHeads {s : State} (t : s.Tied) : (∀ j, (Machine.tripHeads s).head j = (s.head j).tripped) ∧
    ∀ k, (Machine.tripHeads s).record k = { s.record k with bound := false } := by
  obtain ⟨tied, heads, records⟩ := t.foldl_tripHead (List.finRange 24)
  have all (j : Fin 24) : (Machine.tripHeads s).head j = (s.head j).tripped := (heads j).trans (if_pos (List.mem_finRange j))
  refine ⟨all, fun k => ?_⟩
  have unbound : ((Machine.tripHeads s).record k).bound = false := by
    cases bound : ((Machine.tripHeads s).record k).bound with
    | false => rfl
    | true =>
      obtain ⟨j, link⟩ := tied.owned k bound
      have link : ((Machine.tripHeads s).head j).bound = some _ := link
      rw [all, (tripped_free (t.bound j)).2] at link
      cases link
  rcases records k with same | cut
  · have same : (Machine.tripHeads s).record k = s.record k := same
    rw [same] at unbound ⊢
    rw [← unbound]
  · exact cut

theorem marked {s : State} (t : s.Tied) (cause : TripCause) : (tripMarked cause s).Tied where
  bound := t.bound
  named h l bound := by
    have grows := grows_tripRecord (s.record l.slot)
    rw [namesLoaded_iff, tripMarked_record, grows.state, grows.serial]
    exact namesLoaded_iff.mp (t.named h l bound)
  owned k bound := by
    rw [tripMarked_record] at bound
    have was : (s.record k).bound = true := by
      unfold tripRecord at bound
      split at bound <;> exact bound
    obtain ⟨h, link⟩ := t.owned k was
    refine ⟨h, ?_⟩
    have same : (tripMarked cause s).tagOf k = s.tagOf k := by
      rw [State.tagOf, State.tagOf, tripMarked_record, (grows_tripRecord _).serial]
    rw [same]
    exact link

theorem unbound_unloaded {s : State} (t : s.Tied) {k : Fin 64} (other : (s.record k).state ≠ .loaded) :
    (s.record k).bound = false := by
  cases bound : (s.record k).bound with
  | false => rfl
  | true =>
    obtain ⟨h, link⟩ := t.owned k bound
    exact absurd (namesLoaded_iff.mp (t.named h _ link)).1 other

end State.Tied

/-- The close of a trip entry: the ABORTs queued and the timers disarmed. -/
def tripClosed (s : State) : State :=
  { s with lp.queue := tripAborts s, hu.heads := s.hu.heads.map (fun c => { c with timer := none }) }

theorem tripEntry_closed (cause : TripCause) (s : State) :
    tripEntry cause s = tripClosed (tripHeads (tripMarked cause s)) := tripEntry_eq cause s

theorem tripClosed_record (s : State) (k : Fin 64) : (tripClosed s).record k = s.record k := rfl
theorem tripClosed_nc (s : State) : (tripClosed s).nc = s.nc := rfl
theorem tripClosed_lp (s : State) : (tripClosed s).lp = { s.lp with queue := tripAborts s } := rfl
theorem tripClosed_head (s : State) (h : Fin 24) : (tripClosed s).head h = { s.head h with timer := none } := by
  simp [tripClosed, State.head]

theorem tripAborts_congr {s t : State} (same : ∀ h, (t.head h).state = (s.head h).state) : tripAborts t = tripAborts s := by
  simp only [tripAborts, same]

theorem tripEntry_queue (cause : TripCause) (s : State) : (tripEntry cause s).lp.queue = tripAborts (tripEntry cause s) := by
  rw [tripEntry_closed]
  generalize tripHeads (tripMarked cause s) = u
  have same : tripAborts (tripClosed u) = tripAborts u := tripAborts_congr fun h => by rw [tripClosed_head]
  rw [tripClosed_lp, same]

/-- What HU's pieces of the trip entry leave of NC and LP. -/
theorem tripHeads_nc_lp (s : State) : (tripHeads s).nc = s.nc ∧ (tripHeads s).lp = s.lp := by
  unfold tripHeads
  generalize List.finRange 24 = hs
  induction hs generalizing s with
  | nil => exact ⟨rfl, rfl⟩
  | cons h hs ih =>
    have one : (tripHead s h).nc = s.nc ∧ (tripHead s h).lp = s.lp := by
      unfold tripHead unbind
      split
      · split
        · exact ⟨rfl, rfl⟩
        · exact ⟨by rw [leaveTo_nc, writeLoaded_nc, setHead_nc], by rw [leaveTo_lp, writeLoaded_lp, setHead_lp]⟩
      · exact ⟨rfl, rfl⟩
    rw [List.foldl_cons]
    exact ⟨(ih _).1.trans one.1, (ih _).2.trans one.2⟩

theorem tripMarked_lp (cause : TripCause) (s : State) : (tripMarked cause s).lp = { s.lp with queue := [] } := rfl

theorem tripEntry_lp (cause : TripCause) (s : State) :
    (tripEntry cause s).lp = { s.lp with queue := tripAborts (tripEntry cause s) } := by
  rw [← tripEntry_queue, tripEntry_closed]
  have lp := (tripHeads_nc_lp (tripMarked cause s)).2.trans (tripMarked_lp cause s)
  generalize tripHeads (tripMarked cause s) = u at lp
  rw [tripClosed_lp, lp]

namespace State.Tied

theorem record_tripEntry {s : State} (t : s.Tied) (cause : TripCause) (k : Fin 64) : (tripEntry cause s).record k =
    if (s.record k).state = .loaded then
      { s.record k with causes := addCause .tripped (s.record k).causes, bound := false } else s.record k := by
  rw [tripEntry_closed, tripClosed_record, (t.marked cause).tripHeads.2, tripMarked_record, tripRecord]
  by_cases loaded : (s.record k).state = .loaded
  · rw [if_pos loaded, if_pos loaded]
  · rw [if_neg loaded, if_neg loaded, ← t.unbound_unloaded loaded]

theorem head_tripEntry {s : State} (t : s.Tied) (cause : TripCause) (h : Fin 24) :
    (tripEntry cause s).head h = { (s.head h).tripped with timer := none } := by
  rw [tripEntry_closed, tripClosed_head, (t.marked cause).tripHeads.1]
  rfl

end State.Tied

/-- The trip entry in a tied state is the one of R147. -/
theorem tripEntry_to {s : State} (t : s.Tied) (working : s.working) (cause : TripCause) :
    State.TripEntryTo cause s (tripEntry cause s) := by
  have quiet : Quiet (fun _ => True) s (tripEntry cause s) := Quiet.tripEntry trivial working
  obtain ⟨clock, pin, out, pending, transit, gap, limit, address, stations, trim, trimRows⟩ := fixed_parts quiet.fixed
  exact
    { nc := by rw [tripEntry_closed, tripClosed_nc]; exact (tripHeads_nc_lp _).1
      records := t.record_tripEntry cause
      heads := fun h => by
        rw [t.head_tripEntry, HeadContext.tripped]
        split <;> rfl
      lp := tripEntry_lp cause s
      stations := stations
      origin := quiet.origin
      nextSerial := quiet.nextSerial
      trim := ⟨trim, trimRows⟩
      vu := quiet.vu
      rs := quiet.rs
      clock := ⟨clock, pin⟩
      outside := ⟨out, pending⟩ }

/-- A request for a trip in RUN or DRAIN. -/
theorem requestTrip_to {s : State} (t : s.Tied) (working : s.working) (cause : TripCause) :
    State.TripEntryTo cause s (requestTrip cause s) := by
  rw [requestTrip_working working]
  exact tripEntry_to t working cause

/-- A trip entry does not read LP's frames. -/
theorem State.TripEntryTo.relinked {cause : TripCause} {s t : State} (trip : State.TripEntryTo cause s t)
    (x : List TransitFrame) : State.TripEntryTo cause { s with lp.transit := x } { t with lp.transit := x } :=
  { trip with
    lp := by
      have lp := trip.lp
      exact congrArg (fun p : LinkPort => { p with transit := x }) lp }

/-! ### The frame gap timer and the vent flag (R134, R135, R146) -/

theorem State.Tied.same {s t : State} (tied : s.Tied) (heads : t.hu.heads = s.hu.heads) (ring : t.tu.ring = s.tu.ring) :
    t.Tied where
  bound := by simpa only [State.head, heads] using tied.bound
  named := by simpa only [State.head, heads, State.namesLoaded, State.record, ring] using tied.named
  owned := by simpa only [State.head, heads, State.tagOf, State.record, ring] using tied.owned

theorem gapDue_iff {s : State} {since : Clock} (running : s.lp.gapTimer = .running since) :
    s.gapDue = true ↔ s.lp.gapLimit.toNat * 100 ≤ (s.clock - since).toNat := by
  simp only [State.gapDue, running, reached_iff]

/-- Settles O5: the expiry by the limit, and then by the mode. -/
theorem gapExpiryByMode : Obligations.GapExpiryByMode := by
  intro s
  have expiry : exec .frameGapExpiry s = .next (gapExpiry s) := rfl
  refine ⟨fun since running due => ?_, fun early => ?_⟩
  · have expires : gapExpiry s = requestTrip .linkGap { s with lp.gapTimer := .expired } :=
      if_pos ((gapDue_iff running).mpr due)
    rw [expiry, expires]
    refine ⟨fun resting => ?_, fun working joined => ⟨_, rfl, ?_⟩⟩
    · rcases resting with standby | trip
      · rw [requestTrip_standby (s := { s with lp.gapTimer := .expired }) standby (by decide)]
        rfl
      · rw [requestTrip_trip (s := { s with lp.gapTimer := .expired }) trip]
        rfl
    · have tied : State.Tied { s with lp.gapTimer := .expired } := joined.tied.same rfl rfl
      exact requestTrip_to tied working .linkGap
  · have none : gapExpiry s = s := by
      refine if_neg fun due => ?_
      cases timer : s.lp.gapTimer with
      | running since =>
        have := (gapDue_iff timer).mp due
        have := early since timer
        omega
      | _ => simp [State.gapDue, timer] at due
    rw [expiry, none]

/-- Settles O6: the vent flag asks for the trip before the frame joins those in transit. -/
theorem carrierTakesVentFlag : Obligations.CarrierTakesVentFlag := by
  intro ws vent s read awake
  have arrival : exec (.carrierFrame ws) s = .next (takeCarrier vent ws (restartGap s)) := by
    show Host.Outcome.next (frameArrival ws s) = _
    rw [frameArrival_awake awake, awake_carrier read]
  rw [arrival]
  refine ⟨?_, ?_, ?_⟩
  · rintro rfl
    rfl
  · rintro rfl resting
    have alert : requestTrip .vent (restartGap s) = raiseAlert .vent (restartGap s) := by
      rcases resting with standby | trip
      · exact requestTrip_standby (s := restartGap s) standby (by decide)
      · exact requestTrip_trip (s := restartGap s) trip .vent
    rw [takeCarrier, takeVent, if_pos rfl, alert]
    rfl
  · rintro rfl working joined
    have trip := requestTrip_to (s := restartGap s) (joined.tied.same rfl rfl) working .vent
    have transit : (requestTrip .vent (restartGap s)).lp.transit = s.lp.transit := by
      obtain ⟨-, -, -, -, transit, -⟩ := fixed_parts (requestTrip_fixed .vent (restartGap s))
      exact transit
    have taken : takeCarrier true ws (restartGap s) = { requestTrip .vent (restartGap s) with
        lp.transit := s.lp.transit ++ [.accepted (ws.take 2)] } := by
      rw [takeCarrier, takeVent, if_pos rfl, putTransit, transit]
    exact ⟨_, rfl, taken ▸ trip.relinked _⟩

end Sys2Proof.Machine
end

-- ==== Proofs: the bonds of heads and records, one by one ====
section
/-! PROOF. The joins of heads and records (R37) and the queue rules of each head (R136, R48, R67, R69), in a form that the
operations of HU keep one by one: one head at a time may be in hand, for which place and queue are settled when it is put down. -/

namespace Sys2Proof.Machine

/-! ### The rules of one head's commands and of its place -/

/-- The rules of the commands queued for one head, and of its charge-limit timer. -/
structure HeadQueue (h : Fin 24) (c : HeadContext) (q : List HeadCommand) : Prop where
  opens : ∀ d ∈ q, d.kind = .openGas → c.state = .charging
  oneOpen : (q.filter (fun d => d.kind == .openGas)).length ≤ 1
  timer : c.timer.isSome = true → c.state = .charging
  aborts : c.state = .aborting → q = [abortCommand h]

namespace HeadQueue
variable {h : Fin 24} {c : HeadContext} {q : List HeadCommand}

theorem noOpen (x : HeadQueue h c q) (state : c.state ≠ .charging) {d : HeadCommand} (mem : d ∈ q) : d.kind ≠ .openGas :=
  fun kind => state (x.opens d mem kind)

theorem noTimer (x : HeadQueue h c q) (state : c.state ≠ .charging) : c.timer = none := by
  cases timer : c.timer with
  | none => rfl
  | some d => exact absurd (x.timer (by rw [timer]; rfl)) state

/-- Commands without an OPEN, for a head that is not ABORTING and whose timer is disarmed. -/
theorem of_noOpen {d : HeadContext} (shut : ∀ e ∈ q, e.kind ≠ .openGas) (timer : d.timer = none)
    (state : d.state ≠ .aborting) : HeadQueue h d q where
  opens e mem kind := absurd kind (shut e mem)
  oneOpen := by
    have empty : q.filter (fun d => d.kind == .openGas) = [] :=
      List.filter_eq_nil_iff.mpr fun e mem => by simp [shut e mem]
    rw [empty]
    exact Nat.zero_le _
  timer armed := by rw [timer] at armed; cases armed
  aborts aborting := absurd aborting state

/-- A head that is not CHARGING goes to a state that is not ABORTING, its timer as it was. -/
theorem moved (x : HeadQueue h c q) (was : c.state ≠ .charging) {d : HeadContext} (timer : d.timer = c.timer)
    (state : d.state ≠ .aborting) : HeadQueue h d q :=
  of_noOpen (fun _ mem => x.noOpen was mem) (timer.trans (x.noTimer was)) state

theorem same (x : HeadQueue h c q) {d : HeadContext} (state : d.state = c.state) (timer : d.timer = c.timer) :
    HeadQueue h d q :=
  ⟨by rw [state]; exact x.opens, x.oneOpen, by rw [state, timer]; exact x.timer, by rw [state]; exact x.aborts⟩

/-- The commands after one that is no OPEN joins those of a head that is neither CHARGING nor ABORTING. -/
theorem joined (x : HeadQueue h c q) (was : c.state ≠ .charging) {e : HeadCommand} (kind : e.kind ≠ .openGas)
    {d : HeadContext} (timer : d.timer = none) (state : d.state ≠ .aborting) : HeadQueue h d (q ++ [e]) :=
  of_noOpen (fun _ mem => by
    rcases List.mem_append.mp mem with old | new
    · exact x.noOpen was old
    · rw [List.mem_singleton.mp new]; exact kind) timer state

end HeadQueue

/-- Where the bound record of a head may stand, by the head's state: from E (or, for d = 1, from the position below it) to R;
what stands below n has been taken by the arrivals of this advance, and what stands from n on has only been moved. The rules of
the state hold for the full invariant (R42 to R44). -/
structure State.Place (s : State) (full : Prop) (d n : Nat) (st : HeadState) (p : Nat) : Prop where
  low : s.stationE ≤ p + d
  high : p ≤ s.stationR
  toCome : n ≤ p → s.stationE < p
  taken : p < n → p < s.stationR
  charge : full → st = .engaged ∨ st = .charging → p ≤ s.stationC ∧ (p < n → p < s.stationC)
  clamp : full → st = .clamped → p ≤ s.stationG ∧ (p < n → p < s.stationG)

theorem State.Place.congr {s t : State} {full : Prop} {d n : Nat} {st : HeadState} {p : Nat}
    (x : s.Place full d n st p) (stations : t.tu.stations = s.tu.stations) : t.Place full d n st p := by
  obtain ⟨a, b, c, e, f, g⟩ := x
  constructor <;> simpa only [State.stationE, State.stationG, State.stationC, State.stationR, stations]

/-- A place at which a head may settle in any state but ENGAGED, CHARGING and CLAMPED. -/
theorem State.Place.free {s : State} {full : Prop} {d n : Nat} {st st' : HeadState} {p : Nat} (x : s.Place full d n st p)
    (engaged : st' ≠ .engaged) (charging : st' ≠ .charging) (clamped : st' ≠ .clamped) : s.Place full d n st' p :=
  ⟨x.low, x.high, x.toCome, x.taken, fun _ either => by rcases either with e | e <;> contradiction,
    fun _ e => absurd e clamped⟩

theorem State.Ordered.congr {s t : State} (o : s.Ordered) (stations : t.tu.stations = s.tu.stations) : t.Ordered := by
  obtain ⟨a, b, c, d, e, f, g, i, j⟩ := o
  constructor <;> simpa only [State.stationE, State.stationG, State.stationC, State.stationR, State.stationK,
    State.stationW, State.stationJ, stations]

/-! ### The bonds -/

/-- The fields of a record that a head's link reads (R37). -/
def Record.tie (r : Record) := (r.state, r.serial, r.head, r.engaged, r.bound)

/-- The link of a head, and the record it names. -/
structure State.Linked (s : State) (h : Fin 24) (l : Link) : Prop where
  named : s.namesLoaded l = true
  head : (s.record l.slot).head = some h
  bound : (s.record l.slot).bound = true

/-- The bonds of heads and records, the queue rules of each head and the places of the bound records, but for those two of the
head in hand. -/
structure State.Bonded (full : Prop) (d n : Nat) (hand : Option (Fin 24)) (s : State) : Prop where
  legal : s.HeadsLegal
  table : s.working → s.Ordered
  links : ∀ h l, (s.head h).bound = some l → s.Linked h l
  bonds : ∀ k, (s.record k).bound = true →
    (s.record k).engaged = true ∧ ∃ h, (s.record k).head = some h ∧ (s.head h).bound = some (s.tagOf k)
  working : ∀ h, (s.head h).bound.isSome = true → s.working
  placed : ∀ h l, hand ≠ some h → (s.head h).bound = some l → s.Place full d n (s.head h).state (s.position l.slot)
  queued : full → ∀ h, hand ≠ some h → HeadQueue h (s.head h) (s.queuedFor h)

theorem tie_parts {r r' : Record} (tie : r'.tie = r.tie) : r'.state = r.state ∧ r'.serial = r.serial ∧ r'.head = r.head ∧
    r'.engaged = r.engaged ∧ r'.bound = r.bound := by simpa only [Record.tie, Prod.mk.injEq] using tie

theorem State.Linked.congr {s t : State} {h : Fin 24} {l : Link} (x : s.Linked h l)
    (tie : (t.record l.slot).tie = (s.record l.slot).tie) : t.Linked h l := by
  obtain ⟨state, serial, head, -, bound⟩ := tie_parts tie
  refine ⟨?_, head.trans x.head, bound.trans x.bound⟩
  rw [namesLoaded_iff, state, serial]
  exact namesLoaded_iff.mp x.named

theorem State.Linked.tag {s : State} {h : Fin 24} {l : Link} (x : s.Linked h l) : l = s.tagOf l.slot := by
  have serial := (namesLoaded_iff.mp x.named).2
  rw [State.tagOf, serial]

namespace State.Bonded
variable {full : Prop} {d n : Nat} {hand : Option (Fin 24)} {s t : State}

theorem tied (b : s.Bonded full d n hand) : s.Tied where
  bound := b.legal.bound
  named h l bound := (b.links h l bound).named
  owned k bound := by
    obtain ⟨-, h, -, link⟩ := b.bonds k bound
    exact ⟨h, link⟩

theorem ordered (b : s.Bonded full d n hand) {h : Fin 24} {l : Link} (bound : (s.head h).bound = some l) : s.Ordered :=
  b.table (b.working h (by rw [bound]; rfl))

/-- Two heads linked to one slot are one head. -/
theorem head_unique (b : s.Bonded full d n hand) {h j : Fin 24} {l m : Link} (bound : (s.head h).bound = some l)
    (other : (s.head j).bound = some m) (slot : l.slot = m.slot) : h = j := by
  have x := (b.links h l bound).head
  rw [slot, (b.links j m other).head] at x
  exact (Option.some.inj x).symm

theorem unbound_unloaded (b : s.Bonded full d n hand) {k : Fin 64} (other : (s.record k).state ≠ .loaded) :
    (s.record k).bound = false := b.tied.unbound_unloaded other

/-- The head of a bound record, and its link. -/
theorem link_of (b : s.Bonded full d n hand) {k : Fin 64} {h : Fin 24} (bound : (s.record k).boundHead = some h) :
    (s.head h).bound = some (s.tagOf k) := by
  unfold Record.boundHead at bound
  split at bound
  next on =>
    obtain ⟨-, j, head, link⟩ := b.bonds k on
    rw [bound] at head
    cases head
    exact link
  next => cases bound

theorem unbound_of (b : s.Bonded full d n hand) {k : Fin 64} (none : (s.record k).boundHead = none) :
    (s.record k).bound = false := by
  cases bound : (s.record k).bound with
  | false => rfl
  | true =>
    obtain ⟨-, h, head, -⟩ := b.bonds k bound
    rw [Record.boundHead, bound, if_pos rfl, head] at none
    cases none

/-! ### What does not touch the bonds -/

theorem of_ties (b : s.Bonded full d n hand) (legal : t.HeadsLegal) (table : t.working → t.Ordered)
    (ties : ∀ k, (t.record k).tie = (s.record k).tie)
    (bound : ∀ h, (t.head h).bound = (s.head h).bound) (working : ∀ h, (t.head h).bound.isSome = true → t.working)
    (placed : ∀ h l, hand ≠ some h → (t.head h).bound = some l →
      t.Place full d n (t.head h).state (t.position l.slot))
    (queued : full → ∀ h, hand ≠ some h → HeadQueue h (t.head h) (t.queuedFor h)) : t.Bonded full d n hand where
  legal := legal
  table := table
  links h l link := (b.links h l ((bound h).symm.trans link)).congr (ties _)
  bonds k on := by
    obtain ⟨-, serial, head, engaged, same⟩ := tie_parts (ties k)
    obtain ⟨attempted, h, own, link⟩ := b.bonds k (same.symm.trans on)
    refine ⟨engaged.trans attempted, h, head.trans own, ?_⟩
    rw [bound, link, State.tagOf, State.tagOf, serial]
  working := working
  placed := placed
  queued := queued

/-- A change outside the bonds: the heads, the ties, the queue, the mode and the track stay. -/
theorem same (b : s.Bonded full d n hand) (heads : t.hu.heads = s.hu.heads)
    (ties : ∀ k, (t.record k).tie = (s.record k).tie) (queue : t.lp.queue = s.lp.queue) (mode : t.nc.mode = s.nc.mode)
    (stations : t.tu.stations = s.tu.stations) (origin : t.tu.origin = s.tu.origin) : t.Bonded full d n hand := by
  have head (h : Fin 24) : t.head h = s.head h := by simp only [State.head, heads]
  have work : t.working ↔ s.working := by simp only [State.working, mode]
  refine b.of_ties (b.legal.same_heads heads) (fun w => (b.table (work.mp w)).congr stations) ties
    (fun h => by rw [head]) (fun h on => work.mpr (b.working h (by rwa [head] at on))) (fun h l away link => ?_)
    (fun f h away => ?_)
  · rw [head] at link ⊢
    have position : t.position l.slot = s.position l.slot := by simp only [State.position, origin]
    rw [position]
    exact (b.placed h l away link).congr stations
  · rw [head, State.queuedFor, queue]
    exact b.queued f h away

theorem plain (b : s.Bonded full d n hand) (heads : t.hu.heads = s.hu.heads) (ring : t.tu.ring = s.tu.ring)
    (queue : t.lp.queue = s.lp.queue) (mode : t.nc.mode = s.nc.mode)
    (stations : t.tu.stations = s.tu.stations) (origin : t.tu.origin = s.tu.origin) : t.Bonded full d n hand :=
  b.same heads (fun k => by simp only [State.record, ring]) queue mode stations origin

/-- With no head bound, the mode, the table and the origin are free. -/
theorem rested (b : s.Bonded full d n none) (free : ∀ h, (s.head h).bound = none) (table : t.working → t.Ordered)
    (heads : t.hu.heads = s.hu.heads) (ring : t.tu.ring = s.tu.ring) (queue : t.lp.queue = s.lp.queue) :
    t.Bonded full d n none := by
  have head (h : Fin 24) : t.head h = s.head h := by simp only [State.head, heads]
  refine b.of_ties (b.legal.same_heads heads) table (fun k => by simp only [State.record, ring])
    (fun h => by rw [head]) (fun h on => ?_) (fun h l _ link => ?_) (fun f h away => ?_)
  · rw [head, free] at on; cases on
  · rw [head, free] at link; cases link
  · rw [head, State.queuedFor, queue]
    exact b.queued f h away

theorem free_of_resting (b : s.Bonded full d n hand) (rest : ¬ s.working) (h : Fin 24) : (s.head h).bound = none := by
  cases bound : (s.head h).bound with
  | none => rfl
  | some l => exact absurd (b.working h (by rw [bound]; rfl)) rest

theorem free_of_empty (b : s.Bonded full d n hand) (empty : ∀ k, (s.record k).state = .empty) (h : Fin 24) :
    (s.head h).bound = none := by
  cases bound : (s.head h).bound with
  | none => rfl
  | some l =>
    have loaded := (namesLoaded_iff.mp (b.links h l bound).named).1
    rw [empty] at loaded
    cases loaded

/-- The places of the bound records, moved or held to other bounds. -/
theorem replaced (b : s.Bonded full d n hand) {d' n' : Nat}
    (place : ∀ h l, hand ≠ some h → (s.head h).bound = some l → s.Place full d n (s.head h).state (s.position l.slot) →
      s.Place full d' n' (s.head h).state (s.position l.slot)) : s.Bonded full d' n' hand :=
  ⟨b.legal, b.table, b.links, b.bonds, b.working, fun h l away link => place h l away link (b.placed h l away link), b.queued⟩

/-! ### Records -/

/-- A record that no head is bound to is written, and stays so. -/
theorem setUnbound (b : s.Bonded full d n hand) {k : Fin 64} {r : Record} (was : (s.record k).bound = false)
    (now : r.bound = false) : (s.setRecord k r).Bonded full d n hand where
  legal := b.legal.same_heads rfl
  table w := (b.table w).congr rfl
  links h l link := by
    have x := b.links h l link
    have away : l.slot ≠ k := by
      rintro rfl
      have on := x.bound
      rw [was] at on
      cases on
    exact x.congr (by rw [record_setRecord_ne away])
  bonds j on := by
    have away : j ≠ k := by
      rintro rfl
      rw [record_setRecord_self, now] at on
      cases on
    simp only [State.tagOf, record_setRecord_ne away] at on ⊢
    exact b.bonds j on
  working := b.working
  placed h l away link := (b.placed h l away link).congr rfl
  queued := b.queued

/-- A writer that leaves the ties of the record it writes. -/
theorem writeLoaded (b : s.Bonded full d n hand) {l : Link} {f : Record → Record}
    (tie : ∀ r : Record, (f r).tie = r.tie) : (writeLoaded l f s).Bonded full d n hand := by
  unfold Machine.writeLoaded
  split
  · refine b.same rfl (fun k => ?_) rfl rfl rfl rfl
    rw [record_setRecord]
    split
    next own => rw [own, tie]
    next => rfl
  · exact b

theorem addCauseTo (b : s.Bonded full d n hand) (l : Link) (c : Cause) : (addCauseTo l c s).Bonded full d n hand :=
  b.writeLoaded fun _ => rfl

theorem addBoundCause (b : s.Bonded full d n hand) (h : Fin 24) (c : Cause) :
    (addBoundCause h c s).Bonded full d n hand := by
  unfold Machine.addBoundCause
  split
  · exact b.addCauseTo _ _
  · exact b

theorem raiseAlert (b : s.Bonded full d n hand) (a : AlertKind) : (raiseAlert a s).Bonded full d n hand :=
  b.plain rfl rfl rfl rfl rfl rfl

/-! ### The head in hand -/

/-- Taking a head in hand, and holding the others to other bounds. -/
theorem taken (b : s.Bonded full d n none) (h : Fin 24) {d' n' : Nat}
    (place : ∀ j l, j ≠ h → (s.head j).bound = some l → s.Place full d n (s.head j).state (s.position l.slot) →
      s.Place full d' n' (s.head j).state (s.position l.slot)) : s.Bonded full d' n' (some h) where
  legal := b.legal
  table := b.table
  links := b.links
  bonds := b.bonds
  working := b.working
  placed j l away link := place j l (fun e => away (by rw [e])) link (b.placed j l nofun link)
  queued f j _ := b.queued f j nofun

theorem inHand (b : s.Bonded full d n none) (h : Fin 24) : s.Bonded full d n (some h) := b.taken h fun _ _ _ _ x => x

/-- Putting the head in hand down, at a place and with commands that its state allows. -/
theorem putDown {h : Fin 24} (b : s.Bonded full d n (some h))
    (place : ∀ l, (s.head h).bound = some l → s.Place full d n (s.head h).state (s.position l.slot))
    (queued : full → HeadQueue h (s.head h) (s.queuedFor h)) : s.Bonded full d n none where
  legal := b.legal
  table := b.table
  links := b.links
  bonds := b.bonds
  working := b.working
  placed j l _ link := by
    by_cases own : h = j
    · subst own; exact place l link
    · exact b.placed j l (fun e => own (Option.some.inj e)) link
  queued f j _ := by
    by_cases own : h = j
    · subst own; exact queued f
    · exact b.queued f j (fun e => own (Option.some.inj e))

/-- The head in hand changes, but for its link. -/
theorem setHead {h : Fin 24} (b : s.Bonded full d n (some h)) {c : HeadContext} (legal : c.Legal)
    (bound : c.bound = (s.head h).bound) : (s.setHead h c).Bonded full d n (some h) := by
  have links (j : Fin 24) : ((s.setHead h c).head j).bound = (s.head j).bound := by
    rw [head_setHead]
    split
    next own => rw [bound, own]
    next => rfl
  have others {j : Fin 24} (away : some h ≠ some j) : (s.setHead h c).head j = s.head j :=
    head_setHead_ne (fun e => away (by rw [e])) s c
  refine b.of_ties (b.legal.setHead legal) (fun w => (b.table w).congr rfl) (fun _ => rfl) links (fun j on => b.working j (links j ▸ on))
    (fun j l away link => ?_) (fun f j away => ?_)
  · rw [others away] at link ⊢
    exact (b.placed j l away link).congr rfl
  · rw [others away]
    exact b.queued f j away

theorem leaveTo {h : Fin 24} (b : s.Bonded full d n (some h)) {st : HeadState}
    (legal : ({ s.head h with state := st, timer := none } : HeadContext).Legal) :
    (leaveTo h st s).Bonded full d n (some h) := b.setHead legal rfl

/-- The head in hand leaves its cycle, unbound. -/
theorem unbindTo {h : Fin 24} (b : s.Bonded full d n (some h)) {st : HeadState}
    (free : st = .aborting ∨ st = .faulted ∨ st = freeState (s.head h)) :
    (Machine.leaveTo h st (unbind h s)).Bonded full d n (some h) := by
  cases bound : (s.head h).bound with
  | none =>
    rw [unbind_free bound]
    refine b.leaveTo (.of_free ?_ bound)
    rcases free with e | e | e
    · exact .inl e
    · exact .inr (.inl e)
    · exact .inr (.inr e)
  | some l =>
    have own := b.links h l bound
    have records (k : Fin 64) := record_unbind bound own.named k
    have tags (k : Fin 64) := tagOf_unbind bound own.named k
    have others {j : Fin 24} (away : j ≠ h) : (Machine.leaveTo h st (unbind h s)).head j = s.head j := by
      rw [head_leaveTo, if_neg away, head_unbind, if_neg (fun both => away both.1)]
    have self : ((Machine.leaveTo h st (unbind h s)).head h).bound = none := by
      simp [head_leaveTo, head_unbind, bound]
    have away_of {j : Fin 24} {m : Link} (link : ((Machine.leaveTo h st (unbind h s)).head j).bound = some m) : j ≠ h := by
      rintro rfl
      rw [self] at link
      cases link
    have work : (Machine.leaveTo h st (unbind h s)).nc = s.nc := by
      rw [leaveTo_nc, unbind_bound bound, writeLoaded_nc, setHead_nc]
    have lp : (Machine.leaveTo h st (unbind h s)).lp = s.lp := by
      rw [leaveTo_lp, unbind_bound bound, writeLoaded_lp, setHead_lp]
    obtain ⟨stations, origin⟩ : (Machine.leaveTo h st (unbind h s)).tu.stations = s.tu.stations ∧
        (Machine.leaveTo h st (unbind h s)).tu.origin = s.tu.origin := by
      rw [leaveTo_tu, unbind_bound bound, writeLoaded_stations, writeLoaded_origin]
      exact ⟨rfl, rfl⟩
    refine ⟨b.legal.unbindTo free, fun w => ?_, fun j m link => ?_, fun k on => ?_, fun j on => ?_, fun j m _ link => ?_,
      fun f j away => ?_⟩
    · exact (b.table (by simpa only [State.working, work] using w)).congr stations
    · have away := away_of link
      rw [others away] at link
      have other : m.slot ≠ l.slot := fun e => away (b.head_unique link bound e)
      refine (b.links j m link).congr ?_
      rw [leaveTo_record, records, if_neg other]
    · rw [leaveTo_record, records] at on
      split at on
      · cases on
      next away =>
        obtain ⟨attempted, j, head, link⟩ := b.bonds k on
        have other : j ≠ h := by
          rintro rfl
          rw [bound] at link
          exact away (by rw [Option.some.inj link]; rfl)
        have same : (Machine.leaveTo h st (unbind h s)).record k = s.record k := by
          rw [leaveTo_record, records, if_neg away]
        rw [State.tagOf, same]
        exact ⟨attempted, j, head, (others other).symm ▸ link⟩
    · obtain ⟨m, link⟩ := Option.isSome_iff_exists.mp on
      rw [others (away_of link)] at on
      simpa only [State.working, work] using b.working j on
    · have away := away_of link
      rw [others away] at link ⊢
      have position : (Machine.leaveTo h st (unbind h s)).position m.slot = s.position m.slot := by
        simp only [State.position, origin]
      rw [position]
      exact (b.placed j m (fun e => away (Option.some.inj e).symm) link).congr stations
    · have other : j ≠ h := fun e => away (by rw [e])
      rw [others other, State.queuedFor, lp]
      exact b.queued f j away

/-- An unbound head takes a LOADED record that was attempted and is unbound. -/
theorem bindHead (b : s.Bonded full d n none) {h : Fin 24} {k : Fin 64} (work : s.working)
    (free : (s.head h).bound = none) (loaded : (s.record k).state = .loaded) (engaged : (s.record k).engaged = true)
    (unbound : (s.record k).bound = false) : (bindHead h k s).Bonded full d n (some h) := by
  have head (j : Fin 24) : (Machine.bindHead h k s).head j = if j = h then
      { s.head h with state := .engaged, bound := some (s.tagOf k), trailing := none, clampWait := 0 } else s.head j :=
    head_setHead s h j _
  have record (j : Fin 64) : (Machine.bindHead h k s).record j =
      if j = k then { s.record k with head := some h, bound := true } else s.record j := record_setRecord s k j _
  have tag (j : Fin 64) : (Machine.bindHead h k s).tagOf j = s.tagOf j := by
    rw [State.tagOf, State.tagOf, record]
    split
    next own => rw [own]
    next => rfl
  refine ⟨b.legal.bindHead h k, fun w => (b.table w).congr rfl, fun j l link => ?_, fun j on => ?_, fun j _ => work, fun j l away link => ?_,
    fun f j away => ?_⟩
  · rw [head] at link
    split at link
    next own =>
      cases link
      refine ⟨namesLoaded_iff.mpr ?_, ?_, ?_⟩
      · show ((Machine.bindHead h k s).record k).state = _ ∧ ((Machine.bindHead h k s).record k).serial = _
        rw [record, if_pos rfl]
        exact ⟨loaded, rfl⟩
      · show ((Machine.bindHead h k s).record k).head = _
        rw [record, if_pos rfl, own]
      · show ((Machine.bindHead h k s).record k).bound = _
        rw [record, if_pos rfl]
    next other =>
      have x := b.links j l link
      have away : l.slot ≠ k := by
        rintro rfl
        have on := x.bound
        rw [unbound] at on
        cases on
      exact x.congr (by rw [record, if_neg away])
  · rw [record] at on ⊢
    rw [tag]
    split at on
    next own =>
      rw [if_pos own, own]
      refine ⟨engaged, h, rfl, ?_⟩
      rw [head, if_pos rfl]
    next other =>
      rw [if_neg other]
      obtain ⟨attempted, j', own, link⟩ := b.bonds j on
      refine ⟨attempted, j', own, ?_⟩
      have away : j' ≠ h := by
        rintro rfl
        rw [free] at link
        cases link
      rw [head, if_neg away, link]
  · rw [head, if_neg (fun e => away (by rw [e]))] at link ⊢
    exact (b.placed j l nofun link).congr rfl
  · rw [head, if_neg (fun e => away (by rw [e]))]
    exact b.queued f j nofun

/-! ### The trip entry and the queue -/

theorem queuedFor_aborts (f : Fin 24 → Bool) (h : Fin 24) :
    (((List.finRange 24).filter f).map abortCommand).filter (fun c => c.head == h) =
      if f h = true then [abortCommand h] else [] := by
  have heads : (fun c : HeadCommand => c.head == h) ∘ abortCommand = fun j => j == h := rfl
  rw [List.filter_map, heads, List.filter_filter]
  have only : (List.finRange 24).filter (fun j => j == h && f j) = if f h = true then [h] else [] := by
    have one : (List.finRange 24).filter (fun j => j == h) = [h] := by
      rw [List.filter_beq, List.count_eq_one_of_mem (List.nodup_finRange 24) (List.mem_finRange h)]
      rfl
    have swap : (List.finRange 24).filter (fun j => j == h && f j) =
        ((List.finRange 24).filter (fun j => j == h)).filter f := by
      rw [List.filter_filter]
      exact List.filter_congr fun j _ => Bool.and_comm _ _
    rw [swap, one]
    by_cases on : f h = true <;> simp [on]
  rw [only]
  split <;> rfl

/-- A trip entry leaves no bond, and every rule of the queue anew. -/
theorem tripEntry (b : s.Bonded full d n hand) (work : s.working) (cause : TripCause) (full' : Prop)
    (d' n' : Nat) (hand' : Option (Fin 24)) : (tripEntry cause s).Bonded full' d' n' hand' := by
  have trip := tripEntry_to b.tied work cause
  have head (h : Fin 24) := b.tied.head_tripEntry cause h
  have free (h : Fin 24) : ((Machine.tripEntry cause s).head h).bound = none := by
    rw [head]
    exact (tripped_free (b.legal.bound h)).2
  have resting : ¬ (Machine.tripEntry cause s).working := by simp [State.working, trip.nc]
  refine ⟨b.legal.tripEntry cause, fun w => absurd w resting, fun h l link => ?_, fun k on => ?_, fun h on => ?_,
    fun h l _ link => ?_, fun _ h _ => ?_⟩
  · rw [free] at link; cases link
  · rw [trip.records] at on
    split at on
    · cases on
    next other => rw [b.unbound_unloaded other] at on; cases on
  · rw [free] at on; cases on
  · rw [free] at link; cases link
  · have timer : ((Machine.tripEntry cause s).head h).timer = none := by rw [head]
    have queue : (Machine.tripEntry cause s).queuedFor h =
        if ((Machine.tripEntry cause s).head h).state = .aborting then [abortCommand h] else [] := by
      rw [State.queuedFor, tripEntry_queue, tripAborts, queuedFor_aborts]
      simp only [beq_iff_eq]
    rw [queue]
    by_cases aborting : ((Machine.tripEntry cause s).head h).state = .aborting
    · rw [if_pos aborting]
      exact ⟨fun e mem kind => (by rw [List.mem_singleton.mp mem] at kind; cases kind), Nat.zero_le _,
        fun armed => (by rw [timer] at armed; cases armed), fun _ => rfl⟩
    · rw [if_neg aborting]
      exact .of_noOpen (fun e mem => nomatch mem) timer aborting

theorem tripped (b : s.Bonded full d n hand) (work : s.working) (cause : TripCause) (full' : Prop) (d' n' : Nat)
    (hand' : Option (Fin 24)) : (requestTrip cause s).Bonded full' d' n' hand' := by
  rw [requestTrip_working work]
  exact b.tripEntry work cause full' d' n' hand'

theorem requestTrip (b : s.Bonded full d n hand) (cause : TripCause) : (requestTrip cause s).Bonded full d n hand := by
  by_cases work : s.working
  · exact b.tripped work cause full d n hand
  · have rest := not_or.mp work
    unfold Machine.requestTrip
    split
    next run => exact absurd run rest.1
    next drain => exact absurd drain rest.2
    next => exact b.raiseAlert _
    next =>
      split
      · exact b
      · exact b.raiseAlert _
    next => exact b

theorem queuedFor_kept (c : HeadCommand) (q : List HeadCommand) {h : Fin 24} (other : h ≠ c.head) :
    (q.filter (keepsCommand c) ++ [c]).filter (fun e => e.head == h) = q.filter (fun e => e.head == h) := by
  have last : (fun e : HeadCommand => e.head == h) c = false := by simp [Ne.symm other]
  rw [List.filter_append, List.filter_cons_of_neg (by simp [Ne.symm other]), List.filter_nil, List.append_nil,
    List.filter_filter]
  refine List.filter_congr fun e _ => ?_
  by_cases own : e.head = h
  · have away : e.head ≠ c.head := own ▸ other
    cases kind : c.kind <;> simp [keepsCommand, kind, own, other]
  · simp [own]

theorem queuedFor_own (c : HeadCommand) (q : List HeadCommand) :
    (q.filter (keepsCommand c) ++ [c]).filter (fun e => e.head == c.head) =
      (q.filter (fun e => e.head == c.head)).filter (keepsCommand c) ++ [c] := by
  rw [List.filter_append, List.filter_filter, List.filter_filter, List.filter_cons_of_pos (by simp), List.filter_nil]
  congr 1
  exact List.filter_congr fun e _ => Bool.and_comm _ _

/-- The rules of the queue and of the states' places left aside. -/
theorem unruled (b : s.Bonded full d n hand) : s.Bonded False d n hand :=
  ⟨b.legal, b.table, b.links, b.bonds, b.working, fun h l away link =>
    (fun x => ⟨x.low, x.high, x.toCome, x.taken, nofun, nofun⟩) (b.placed h l away link), nofun⟩

/-- Another queue, the same for every head but the one in hand. -/
theorem requeued {h : Fin 24} (b : s.Bonded full d n (some h)) (q : List HeadCommand)
    (others : full → ∀ j, j ≠ h → q.filter (fun c => c.head == j) = s.queuedFor j) :
    State.Bonded full d n (some h) { s with lp.queue := q } := by
  refine b.of_ties (b.legal.same_heads rfl) (fun w => (b.table w).congr rfl) (fun _ => rfl) (fun _ => rfl) b.working
    (fun j l away link => (b.placed j l away link).congr rfl) fun f j away => ?_
  rw [State.queuedFor, others f j (fun e => away (by rw [e]))]
  exact b.queued f j away

/-- Queuing a command for the head in hand puts it down. -/
theorem queueCommand {c : HeadCommand} (b : s.Bonded full d n (some c.head)) (work : s.working)
    (place : ∀ l, (s.head c.head).bound = some l → s.Place full d n (s.head c.head).state (s.position l.slot))
    (queued : full → HeadQueue c.head (s.head c.head) ((s.queuedFor c.head).filter (keepsCommand c) ++ [c])) :
    (queueCommand c s).Bonded full d n none := by
  by_cases room : (s.lp.queue.filter (keepsCommand c)).length < 48
  · rw [queueCommand_room room]
    have kept := b.requeued (s.lp.queue.filter (keepsCommand c) ++ [c]) fun _ j other => queuedFor_kept c s.lp.queue other
    refine kept.putDown (fun l link => (place l link).congr rfl) fun f => ?_
    rw [State.queuedFor, queuedFor_own]
    exact queued f
  · rw [queueCommand_full (by omega)]
    exact (b.unruled.requeued (s.lp.queue.filter (keepsCommand c)) nofun).tripped work _ _ _ _ _

end State.Bonded

end Sys2Proof.Machine
end

-- ==== Proofs: the joins and the queue through every event ====
section
/-! PROOF. Every step keeps the joins of heads and records (R37) and the rules of the Command Queue and the charge-limit timers
(R136, R48, R67, R69): each operation of HU keeps the bonds, and an advance takes the arrivals position by position. -/

namespace Sys2Proof.Machine

/-! ### What the pieces of HU leave of NC, LP and the track -/

section
variable (h : Fin 24) (s : State)

@[simp] theorem unbind_nc : (unbind h s).nc = s.nc := by
  unfold unbind
  split
  · rfl
  · rw [writeLoaded_nc, setHead_nc]

@[simp] theorem unbind_lp : (unbind h s).lp = s.lp := by
  unfold unbind
  split
  · rfl
  · rw [writeLoaded_lp, setHead_lp]

@[simp] theorem unbind_enabled : ((unbind h s).head h).enabled = (s.head h).enabled := by
  rw [head_unbind]
  split <;> rfl

variable (c : Cause)

@[simp] theorem addBoundCause_nc : (addBoundCause h c s).nc = s.nc := by
  unfold addBoundCause
  split
  · rw [addCauseTo, writeLoaded_nc]
  · rfl

@[simp] theorem addBoundCause_lp : (addBoundCause h c s).lp = s.lp := by
  unfold addBoundCause
  split
  · rw [addCauseTo, writeLoaded_lp]
  · rfl

@[simp] theorem addBoundCause_hu : (addBoundCause h c s).hu = s.hu := by
  unfold addBoundCause
  split
  · rw [addCauseTo, writeLoaded_hu]
  · rfl

@[simp] theorem addBoundCause_head (j : Fin 24) : (addBoundCause h c s).head j = s.head j := by
  simp only [State.head, addBoundCause_hu]

end

theorem freeState_ne {c : HeadContext} : freeState c ≠ .charging ∧ freeState c ≠ .aborting := by
  unfold freeState
  split <;> decide

/-- A head that has left its cycle unbound. -/
theorem freed_self (h : Fin 24) (st : HeadState) (s : State) : ((leaveTo h st (unbind h s)).head h).state = st ∧
    ((leaveTo h st (unbind h s)).head h).timer = none ∧ ((leaveTo h st (unbind h s)).head h).bound = none := by
  rw [head_leaveTo, if_pos rfl]
  refine ⟨rfl, rfl, ?_⟩
  rw [head_unbind]
  cases bound : (s.head h).bound with
  | none => simpa using bound
  | some l => simp

theorem mem_queuedFor {s : State} {h : Fin 24} {c : HeadCommand} : c ∈ s.queuedFor h ↔ c ∈ s.lp.queue ∧ c.head = h := by
  rw [State.queuedFor, List.mem_filter, beq_iff_eq]

/-- An ABORT leaves no other command of its head. -/
theorem queuedFor_abort (s : State) (h : Fin 24) : (s.queuedFor h).filter (keepsCommand ⟨h, .abort, 0⟩) = [] :=
  List.filter_eq_nil_iff.mpr fun c mem => by
    rw [keepsCommand_abort, (mem_queuedFor.mp mem).2]
    simp

/-- A CLOSE leaves no OPEN of its head. -/
theorem queuedFor_close {s : State} {h : Fin 24} {c : HeadCommand}
    (mem : c ∈ (s.queuedFor h).filter (keepsCommand ⟨h, .closeGas, 0⟩)) : c.kind ≠ .openGas := by
  obtain ⟨own, kept⟩ := List.mem_filter.mp mem
  rw [keepsCommand_close, (mem_queuedFor.mp own).2] at kept
  simpa using kept

namespace State.Bonded
variable {full : Prop} {d n : Nat} {s : State} {h : Fin 24}

theorem working_of (b : s.Bonded full d n none) (state : (s.head h).state.isBound = true) : s.working :=
  b.working h ((b.legal.bound h).symm.trans state)

theorem setTied {hand : Option (Fin 24)} (b : s.Bonded full d n hand) {k : Fin 64} {r : Record}
    (tie : r.tie = (s.record k).tie) : (s.setRecord k r).Bonded full d n hand := by
  refine b.same rfl (fun j => ?_) rfl rfl rfl rfl
  rw [record_setRecord]
  split
  next own => rw [tie, own]
  next => rfl

/-- Queuing a command for the head in hand, in terms of that head. -/
theorem queueHead (b : s.Bonded full d n (some h)) (kind : CommandKind) (argument : Word) (work : s.working)
    (place : ∀ l, (s.head h).bound = some l → s.Place full d n (s.head h).state (s.position l.slot))
    (queued : full → HeadQueue h (s.head h)
      ((s.queuedFor h).filter (keepsCommand ⟨h, kind, argument⟩) ++ [⟨h, kind, argument⟩])) :
    (Machine.queueCommand ⟨h, kind, argument⟩ s).Bonded full d n none :=
  b.queueCommand (c := ⟨h, kind, argument⟩) work place queued

/-! ### Aborts, faults, charges and crimps -/

theorem abortHead (b : s.Bonded full d n (some h)) (work : s.working) (c : Cause) :
    (abortHead h c s).Bonded full d n none := by
  have freed := (b.addBoundCause h c).unbindTo (.inl rfl)
  obtain ⟨state, timer, bound⟩ := freed_self h .aborting (Machine.addBoundCause h c s)
  refine freed.queueHead .abort 0 (by simpa [State.working] using work)
    (fun l link => nomatch bound.symm.trans link) fun f => ?_
  rw [queuedFor_abort]
  exact ⟨fun e mem kind => (by rw [List.mem_singleton.mp mem] at kind; cases kind), Nat.zero_le _,
    fun armed => (by rw [timer] at armed; cases armed), fun _ => rfl⟩

theorem faultEvent (b : s.Bonded full d n none) (h : Fin 24) : (faultEvent h s).Bonded full d n none := by
  have alerted := (b.raiseAlert .headFault).inHand h
  unfold Machine.faultEvent
  dsimp only
  split
  next bound =>
    have freed := (alerted.addBoundCause h .headFault).unbindTo (.inr (.inl rfl))
    obtain ⟨state, timer, free⟩ := freed_self h .faulted (Machine.addBoundCause h .headFault (Machine.raiseAlert .headFault s))
    refine freed.queueHead .abort 0 (by simpa [State.working] using b.working h bound)
      (fun l link => nomatch free.symm.trans link) fun f => ?_
    rw [queuedFor_abort]
    exact .of_noOpen (fun e mem => by rw [List.mem_singleton.mp mem]; exact nofun) timer (by rw [state]; decide)
  next free =>
    have none : (s.head h).bound = none := by simpa using free
    refine (alerted.leaveTo (.of_free (.inr (.inl rfl)) none)).putDown (fun l link => ?_) fun f => ?_
    · rw [head_leaveTo, if_pos rfl] at link
      exact nomatch none.symm.trans link
    · have was : (s.head h).state ≠ .charging := fun e => by
        have := b.legal.bound h
        simp [e, none, HeadState.isBound] at this
      rw [head_leaveTo, if_pos rfl]
      exact .of_noOpen (fun e mem => (b.queued f h nofun).noOpen was mem) rfl nofun

theorem filter_keepsAll (q : List HeadCommand) {c : HeadCommand} (all : ∀ e, keepsCommand c e = true) :
    q.filter (keepsCommand c) = q := List.filter_eq_self.mpr fun e _ => all e

/-- A bound head in hand that is not CHARGING begins to charge, and its OPEN is queued. -/
theorem charging (b : s.Bonded full d n (some h)) {l : Link} (bound : (s.head h).bound = some l) (work : s.working)
    (state : (s.head h).state ≠ .charging) (place : s.Place full d n .charging (s.position l.slot))
    (queued : full → HeadQueue h (s.head h) (s.queuedFor h)) (dose : Int) :
    (queueKind h .openGas (s.setHead h { s.head h with state := .charging, doseCounter := dose })).Bonded full d n none := by
  have opened := b.setHead (c := { s.head h with state := .charging, doseCounter := dose })
    (.of_bound rfl (by rw [bound]; rfl)) rfl
  refine opened.queueHead .openGas 0 work (fun m link => ?_) fun f => ?_
  · rw [head_setHead_self] at link ⊢
    cases bound.symm.trans link
    exact place.congr rfl
  · rw [head_setHead_self, filter_keepsAll _ fun _ => rfl]
    have rules := queued f
    have shut : (s.queuedFor h).filter (fun e => e.kind == .openGas) = [] :=
      List.filter_eq_nil_iff.mpr fun e mem => by simpa using rules.noOpen state mem
    have commands : (s.setHead h { s.head h with state := .charging, doseCounter := dose }).queuedFor h = s.queuedFor h := rfl
    refine ⟨fun _ _ _ => rfl, ?_, fun _ => rfl, nofun⟩
    rw [commands, List.filter_append, shut]
    exact Nat.le_refl _

theorem openCharge (b : s.Bonded full d n (some h)) {l : Link} (bound : (s.head h).bound = some l) (work : s.working)
    (state : (s.head h).state ≠ .charging) (place : s.Place full d n .charging (s.position l.slot))
    (queued : full → HeadQueue h (s.head h) (s.queuedFor h)) : (openCharge h l s).Bonded full d n none := by
  unfold Machine.openCharge
  dsimp only
  generalize writes : (fun r : Record => { r with
    doseLoaded := some (trimmedDose s (s.record l.slot))
    causes := addCauseIf (trimFactor s (s.record l.slot)).2 r.causes }) = f
  have dosed := b.writeLoaded (l := l) (f := f) fun r => by rw [← writes]; rfl
  have position : (Machine.writeLoaded l f s).position l.slot = s.position l.slot := by
    simp only [State.position, writeLoaded_origin]
  refine dosed.charging (l := l) (by rw [writeLoaded_head, bound]) (by simpa [State.working] using work)
    (by rwa [writeLoaded_head]) ?_ (fun full => ?_) _
  · rw [position]
    exact place.congr (writeLoaded_stations l f s)
  · rw [writeLoaded_head, State.queuedFor, writeLoaded_lp]
    exact queued full

/-- A CLAMPED head in hand whose place is right for CHARGING at a gas position, and for CLAMPED at any other. -/
theorem openIfReady (b : s.Bonded full d n (some h)) (state : (s.head h).state = .clamped)
    (place : ∀ l, (s.head h).bound = some l →
      s.Place full d n (if s.atGas (s.position l.slot) = true then .charging else .clamped) (s.position l.slot))
    (queued : full → HeadQueue h (s.head h) (s.queuedFor h)) : (openIfReady h s).Bonded full d n none := by
  have isBound : (s.head h).bound.isSome = true := by rw [← b.legal.bound, state]; rfl
  obtain ⟨l, bound⟩ := Option.isSome_iff_exists.mp isBound
  have work := b.working h isBound
  have place := place l bound
  unfold Machine.openIfReady
  rw [bound]
  dsimp only
  by_cases gas : s.atGas (s.position l.slot) = true
  · rw [if_pos ⟨state, gas, work⟩]
    rw [if_pos gas] at place
    exact b.openCharge bound work (by rw [state]; decide) place queued
  · rw [if_neg (fun all => gas all.2.1)]
    rw [if_neg gas] at place
    refine b.putDown (fun m link => ?_) queued
    cases bound.symm.trans link
    rwa [state]

/-- The CRIMP of a SETTLING head whose record is at its station. -/
theorem sendCrimp (b : s.Bonded full d n none) (h : Fin 24) : (sendCrimp h s).Bonded full d n none := by
  unfold Machine.sendCrimp
  split
  next l bound =>
    split
    next ready =>
      obtain ⟨state, -, -, work⟩ := ready
      have crimping := (b.inHand h).leaveTo (st := .crimping) (.of_bound rfl (by rw [bound]; rfl))
      have self : (Machine.leaveTo h .crimping s).head h = { s.head h with state := .crimping, timer := none } := by
        rw [head_leaveTo, if_pos rfl]
      refine crimping.queueHead .crimp _ work (fun m link => ?_) fun f => ?_
      · rw [self] at link ⊢
        exact ((b.placed h m nofun link).free (st' := .crimping) nofun nofun nofun).congr rfl
      · rw [self, filter_keepsAll _ fun _ => rfl]
        exact (b.queued f h nofun).joined (by rw [state]; decide) (by exact nofun) rfl (by exact nofun)
    next => exact b
  next => exact b

/-- The end of the charge of a head in hand. -/
theorem endCharge (b : s.Bonded full d n (some h)) (state : (s.head h).state = .charging)
    (place : ∀ l, (s.head h).bound = some l → s.Place full d n .settling (s.position l.slot)) :
    (endCharge h s).Bonded full d n none := by
  have isBound : (s.head h).bound.isSome = true := by rw [← b.legal.bound, state]; rfl
  have settling := b.leaveTo (st := .settling) (.of_bound rfl isBound)
  have self : (Machine.leaveTo h .settling s).head h = { s.head h with state := .settling, timer := none } := by
    rw [head_leaveTo, if_pos rfl]
  refine State.Bonded.sendCrimp (settling.queueHead .closeGas 0 (b.working h isBound) (fun m link => ?_) fun f => ?_) h
  · rw [self] at link ⊢
    exact (place m link).congr rfl
  · rw [self]
    refine .of_noOpen (fun e mem => ?_) rfl nofun
    rcases List.mem_append.mp mem with old | new
    · exact queuedFor_close old
    · rw [List.mem_singleton.mp new]; exact nofun

/-! ### Forward arrivals -/

/-- Two records at one position are one. -/
theorem slot_of_position {k j : Fin 64} (same : s.position k = s.position j) : k = j := by
  rw [← slotAt_position s k, ← slotAt_position s j, same]

/-- Past position n, at which no bound record stands. -/
theorem passed (b : s.Bonded full d n none) (away : ∀ h l, (s.head h).bound = some l → s.position l.slot ≠ n) :
    s.Bonded full d (n + 1) none := by
  refine b.replaced fun h l _ link x => ?_
  have other := away h l link
  exact ⟨x.low, x.high, fun p => x.toCome (by omega), fun p => x.taken (by omega),
    fun f e => ⟨(x.charge f e).1, fun p => (x.charge f e).2 (by omega)⟩,
    fun f e => ⟨(x.clamp f e).1, fun p => (x.clamp f e).2 (by omega)⟩⟩

/-- Position n is taken with the head bound there in hand. -/
theorem reached (b : s.Bonded full d n none) {l : Link} (bound : (s.head h).bound = some l)
    (here : s.position l.slot = n) : s.Bonded full d (n + 1) (some h) := by
  refine b.taken h fun j m away link x => ?_
  have other : s.position m.slot ≠ n := fun there =>
    away (b.head_unique link bound (slot_of_position (there.trans here.symm)))
  exact ⟨x.low, x.high, fun p => x.toCome (by omega), fun p => x.taken (by omega),
    fun f e => ⟨(x.charge f e).1, fun p => (x.charge f e).2 (by omega)⟩,
    fun f e => ⟨(x.clamp f e).1, fun p => (x.clamp f e).2 (by omega)⟩⟩

/-- The place of a record that has arrived at n below R, in a state whose rule holds there. -/
theorem arrive {st st' : HeadState} (x : s.Place full 0 n st' n) (below : n < s.stationR)
    (charge : full → st = .engaged ∨ st = .charging → n < s.stationC) (clamp : full → st = .clamped → n < s.stationG) :
    s.Place full 0 (n + 1) st n :=
  ⟨x.low, x.high, fun late => by omega, fun _ => below, fun f e => ⟨(charge f e).le, fun _ => charge f e⟩,
    fun f e => ⟨(clamp f e).le, fun _ => clamp f e⟩⟩

/-- A record arrives at n and its head stays as it is. -/
theorem stays (b : s.Bonded full 0 n none) {l : Link} (bound : (s.head h).bound = some l) (here : s.position l.slot = n)
    (below : n < s.stationR)
    (charge : full → (s.head h).state = .engaged ∨ (s.head h).state = .charging → n < s.stationC)
    (clamp : full → (s.head h).state = .clamped → n < s.stationG) : s.Bonded full 0 (n + 1) none := by
  refine (b.reached bound here).putDown (fun m link => ?_) fun f => b.queued f h nofun
  cases bound.symm.trans link
  have x := b.placed h l nofun bound
  rw [here] at x ⊢
  exact arrive x below charge clamp

theorem clampWaitArrival (b : s.Bonded full 0 n none) {l : Link} (bound : (s.head h).bound = some l)
    (here : s.position l.slot = n) (below : n < s.stationR) (state : (s.head h).state = .engaged) (r : Record) :
    (clampWaitArrival h r n s).Bonded full 0 (n + 1) none := by
  have isBound : (s.head h).bound.isSome = true := by rw [bound]; rfl
  have counted := (b.reached bound here).setHead (c := { s.head h with clampWait := (s.head h).clampWait + 1 })
    ((b.legal.head h).of_same rfl rfl rfl) rfl
  unfold Machine.clampWaitArrival
  dsimp only
  split
  · exact counted.abortHead (b.working h isBound) .noClamp
  next early =>
    have away : n ≠ s.stationC := fun e => early (.inr e)
    have x := b.placed h l nofun bound
    rw [here] at x
    refine counted.putDown (fun m link => ?_) fun f => ?_
    · rw [head_setHead_self] at link ⊢
      cases bound.symm.trans link
      rw [setHead_position, here]
      refine (arrive x below (fun f e => ?_) fun f e => nomatch state.symm.trans e).congr rfl
      have := (x.charge f (.inl state)).1
      omega
    · rw [head_setHead_self]
      exact (b.queued f h nofun).same rfl rfl

theorem freeState_unbind (h : Fin 24) (s : State) : freeState ((unbind h s).head h) = freeState (s.head h) := by
  rw [freeState, freeState, unbind_enabled]

theorem releaseArrival (b : s.Bonded full 0 n none) {k : Fin 64} (bound : (s.head h).bound = some (s.tagOf k))
    (here : s.position k = n) (last : n = s.stationR) : (releaseArrival h k s).Bonded full 0 (n + 1) none := by
  have isBound : (s.head h).bound.isSome = true := by rw [bound]; rfl
  have o := b.ordered bound
  have x := b.placed h _ nofun bound
  unfold Machine.releaseArrival
  dsimp only
  rw [freeState_unbind]
  generalize writes : (fun r : Record => { r with
    released := true, causes := addCauseIf (releaseCause (s.head h).state) r.causes }) = f
  have written := (b.reached bound here).writeLoaded (l := s.tagOf k) (f := f) fun r => by rw [← writes]; rfl
  have freed := written.unbindTo (st := freeState ((Machine.writeLoaded (s.tagOf k) f s).head h)) (.inr (.inr rfl))
  obtain ⟨state, timer, free⟩ := freed_self h (freeState ((Machine.writeLoaded (s.tagOf k) f s).head h))
    (Machine.writeLoaded (s.tagOf k) f s)
  refine freed.queueHead .release 0 (by simpa [State.working] using b.working h isBound)
    (fun l link => nomatch free.symm.trans link) fun full => ?_
  have uncharged : (s.head h).state ≠ .charging := fun e => by
    have upTo := (x.charge full (.inr e)).1
    have order := o.release
    rw [show s.position (s.tagOf k).slot = n from here] at upTo
    omega
  have queue : (Machine.leaveTo h (freeState ((Machine.writeLoaded (s.tagOf k) f s).head h))
      (unbind h (Machine.writeLoaded (s.tagOf k) f s))).queuedFor h = s.queuedFor h := by
    simp only [State.queuedFor, leaveTo_lp, unbind_lp, writeLoaded_lp]
  rw [filter_keepsAll _ fun _ => rfl, queue]
  exact (b.queued full h nofun).joined uncharged (by exact nofun) timer (by rw [state]; exact freeState_ne.2)

/-- The arrival of a bound record at n. -/
theorem turretArrival (b : s.Bonded full 0 n none) {k : Fin 64} (bound : (s.head h).bound = some (s.tagOf k))
    (here : s.position k = n) : (turretArrival h k n s).Bonded full 0 (n + 1) none := by
  have o := b.ordered bound
  have x := b.placed h _ nofun bound
  rw [show s.position (s.tagOf k).slot = n from here] at x
  have order := o.charge
  unfold Machine.turretArrival
  by_cases last : n = s.stationR
  · rw [if_pos last]
    exact b.releaseArrival bound here last
  · rw [if_neg last]
    have below : n < s.stationR := lt_of_le_of_ne x.high last
    have others (engaged : (s.head h).state ≠ .engaged) (charging : (s.head h).state ≠ .charging)
        (clamped : (s.head h).state ≠ .clamped) : s.Bonded full 0 (n + 1) none :=
      b.stays bound here below (fun _ e => by rcases e with e | e <;> contradiction) fun _ e => absurd e clamped
    cases state : (s.head h).state with
    | engaged => exact b.clampWaitArrival bound here below state _
    | clamped =>
      refine (b.reached bound here).openIfReady state (fun m link => ?_) fun f => b.queued f h nofun
      cases bound.symm.trans link
      rw [show s.position (s.tagOf k).slot = n from here]
      split
      next gas =>
        have gas := of_decide_eq_true gas
        exact arrive x below (fun _ _ => gas.2) (fun _ e => nomatch e)
      next early =>
        refine arrive x below (fun _ e => by rcases e with e | e <;> cases e) fun f _ => ?_
        have upTo := (x.clamp f state).1
        simp only [State.atGas, decide_eq_true_eq] at early
        omega
    | charging =>
      dsimp only
      split
      next atC =>
        have caused := (b.reached bound here).addCauseTo (s.tagOf k) .shortGas
        have same : (Machine.addCauseTo (s.tagOf k) .shortGas s).head h = s.head h := writeLoaded_head _ _ _ _
        refine caused.endCharge (by rw [same, state]) fun m link => ?_
        rw [same] at link
        cases bound.symm.trans link
        have position : (Machine.addCauseTo (s.tagOf k) .shortGas s).position (s.tagOf k).slot = n := by
          simp only [State.position, Machine.addCauseTo, writeLoaded_origin]
          exact here
        rw [position]
        exact (arrive (st := .settling) x below (fun _ e => by rcases e with e | e <;> cases e)
          (fun _ e => nomatch e)).congr (writeLoaded_stations _ _ _)
      next away =>
        refine b.stays bound here below (fun f e => ?_) fun _ e => nomatch state.symm.trans e
        have := (x.charge f e).1
        omega
    | settling => exact (others (by simp [state]) (by simp [state]) (by simp [state])).sendCrimp h
    | _ => exact others (by simp [state]) (by simp [state]) (by simp [state])

/-- The engagement attempt at E. -/
theorem engagementArrival (b : s.Bonded full 0 n none) (φ : Fin 24) {k : Fin 64} (loaded : (s.record k).state = .loaded)
    (here : s.position k = n) (atE : n = s.stationE) : (engagementArrival φ k s).Bonded full 0 (n + 1) none := by
  have passed := b.passed fun h l link there => by
    have := (b.placed h l nofun link).toCome (by omega)
    omega
  unfold Machine.engagementArrival
  dsimp only
  split
  next => exact passed
  next fresh =>
    have unbound : (s.record k).bound = false := by
      cases bound : (s.record k).bound with
      | false => rfl
      | true => exact absurd (.inl (b.bonds k bound).1) fresh
    have attempted := passed.setUnbound (k := k) (r := { s.record k with head := some φ, engaged := true }) unbound unbound
    split
    next work =>
      split
      next ready =>
        have idle : (s.head φ).state = .idle := ready.1
        have free : (s.head φ).bound = none := by
          have := b.legal.bound φ
          rw [idle] at this
          simpa [HeadState.isBound] using this
        have o : s.Ordered := b.table work
        have g := o.gas
        have c := o.charge
        have r := o.release
        have held := attempted.bindHead (h := φ) (k := k) work free (by rw [record_setRecord_self]; exact loaded)
          (by rw [record_setRecord_self]) (by rw [record_setRecord_self]; exact unbound)
        have self : (Machine.bindHead φ k
            (s.setRecord k { s.record k with head := some φ, engaged := true })).head φ = { s.head φ with
          state := .engaged
          bound := some ((s.setRecord k { s.record k with head := some φ, engaged := true }).tagOf k)
          trailing := none
          clampWait := 0 } := head_setHead_self _ _ _
        refine held.queueHead .engage 0 work (fun l link => ?_) fun f => ?_
        · rw [self] at link
          cases link
          rw [self]
          refine State.Place.congr (s := s) ?_ rfl
          show s.Place full 0 (n + 1) .engaged (s.position k)
          rw [here]
          exact ⟨by omega, by omega, fun _ => by omega, fun _ => by omega, fun _ _ => ⟨by omega, fun _ => by omega⟩,
            fun _ e => nomatch e⟩
        · rw [self, filter_keepsAll _ fun _ => rfl]
          have rules := b.queued f φ nofun
          exact rules.joined (by rw [idle]; decide) (by exact nofun) (rules.noTimer (by rw [idle]; decide)) (by exact nofun)
      next => exact attempted.addCauseTo _ _
    next => exact attempted

/-- The arrival at n, whatever stands there. -/
theorem forwardArrival (b : s.Bonded full 0 n none) (φ : Fin 24) (track : n < 64) :
    (forwardArrival φ s n).Bonded full 0 (n + 1) none := by
  have slot : s.position (s.slotAt n) = n := position_slotAt s track
  have away_of (unbound : (s.record (s.slotAt n)).bound = false) : s.Bonded full 0 (n + 1) none := b.passed fun h l link there => by
    have on := (b.links h l link).bound
    rw [slot_of_position (there.trans slot.symm), unbound] at on
    cases on
  unfold Machine.forwardArrival
  dsimp only
  split
  next loaded =>
    split
    next atE => exact b.engagementArrival φ loaded slot atE
    next =>
      split
      next h bound => exact b.turretArrival (b.link_of bound) slot
      next none => exact away_of (b.unbound_of none)
  next other => exact away_of (b.unbound_unloaded other)

/-- The arrivals at the positions below n that lie from E to R. -/
theorem swept (b : s.Bonded full 0 0 none) (φ : Fin 24) (track : n ≤ 64) :
    (((List.range n).filter (fun p => decide (s.stationE ≤ p ∧ p ≤ s.stationR))).foldl
      (Machine.forwardArrival φ) s).Bonded full 0 n none := by
  induction n with
  | zero => exact b
  | succ n ih =>
    have upTo := ih (by omega)
    rw [List.range_succ, List.filter_append, List.foldl_append]
    by_cases turret : s.stationE ≤ n ∧ n ≤ s.stationR
    · rw [List.filter_cons_of_pos (by simpa using turret)]
      exact upTo.forwardArrival φ (by omega)
    · rw [List.filter_cons_of_neg (by simpa using turret)]
      refine upTo.passed fun h l link there => turret ?_
      have x := upTo.placed h l nofun link
      rw [there] at x
      have x := x.congr (Quiet.foldl (Quiet.forwardArrival φ) ((List.range n).filter
        (fun p => decide (s.stationE ≤ p ∧ p ≤ s.stationR))) s).stations.symm
      exact ⟨(x.toCome (Nat.le_refl n)).le, x.high⟩

theorem forwardArrivals (b : s.Bonded full 0 0 none) (φ : Fin 24) :
    (forwardArrivals φ s).Bonded full 0 64 none := b.swept φ (Nat.le_refl 64)

/-- The jog-back: the one head whose record came back to E − 1 is aborted. -/
theorem jogBackArrival (b : s.Bonded full 1 64 none) : (jogBackArrival s).Bonded full 0 64 none := by
  have raised {l : Link} (away : s.position l.slot + 1 ≠ s.stationE) {st : HeadState}
      (x : s.Place full 1 64 st (s.position l.slot)) : s.Place full 0 64 st (s.position l.slot) :=
    ⟨by have := x.low; omega, x.high, x.toCome, x.taken, x.charge, x.clamp⟩
  have kept (away : ∀ h l, (s.head h).bound = some l → s.position l.slot + 1 ≠ s.stationE) : s.Bonded full 0 64 none :=
    b.replaced fun h l _ link x => raised (away h l link) x
  unfold Machine.jogBackArrival
  dsimp only
  split
  next table =>
    have slot : s.position (s.slotAt (s.stationE - 1)) = s.stationE - 1 := position_slotAt s (by omega)
    have there_of {l : Link} (there : s.position l.slot + 1 = s.stationE) : l.slot = s.slotAt (s.stationE - 1) :=
      slot_of_position (s := s) (by omega)
    have kept_of (unbound : (s.record (s.slotAt (s.stationE - 1))).bound = false) : s.Bonded full 0 64 none :=
      kept fun h l link there => by
        have on := (b.links h l link).bound
        rw [there_of there, unbound] at on
        cases on
    split
    next loaded =>
      split
      next h bound =>
        have link := b.link_of bound
        refine State.Bonded.abortHead (b.taken h fun j m away other x => raised (fun there => away ?_) x)
          (b.working h (by rw [link]; rfl)) .jogBack
        exact b.head_unique other link (there_of there)
      next none => exact kept_of (b.unbound_of none)
    next other => exact kept_of (b.unbound_unloaded other)
  next table =>
    refine kept fun h l link _ => table ?_
    have o := b.ordered link
    have := o.first
    have := o.gas
    have := o.charge
    have := o.release
    have := o.afterRelease
    have := o.crimped
    have := o.gate
    have := o.last
    omega

end State.Bonded

end Sys2Proof.Machine
end

-- ==== Proofs: every step keeps the joins and the queue rules ====
section
/-! PROOF. The joins and the queue rules through reports, departures, requests and whole advances, together with the account of
the cans, and so through every step (R37, R136, R48, R67, R69). -/

namespace Sys2Proof.Machine

theorem capture_tie (k : EventKind) (v : Clock) (r : Record) : (r.capture k v).tie = r.tie := by cases k <;> rfl

theorem measure_tie (k : MeasureKind) (v : Word) (r : Record) : (r.measure k v).tie = r.tie := by cases k <;> rfl

namespace State.Bonded
variable {full : Prop} {s : State} {h : Fin 24}

/-! ### Reports -/

/-- A settled place. -/
theorem settled {st : HeadState} {p : Nat} (x : s.Place full 0 64 st p) {st' : HeadState}
    (charge : full → st' = .engaged ∨ st' = .charging → p < s.stationC) (clamp : full → st' = .clamped → p < s.stationG) :
    s.Place full 0 64 st' p :=
  ⟨x.low, x.high, x.toCome, x.taken, fun f e => ⟨(charge f e).le, fun _ => charge f e⟩,
    fun f e => ⟨(clamp f e).le, fun _ => clamp f e⟩⟩

theorem eventMove (b : s.Bonded full 0 64 none) (h : Fin 24) (k : EventKind) :
    (eventMove h k s).Bonded full 0 64 none := by
  cases k with
  | clamped =>
    unfold Machine.eventMove
    dsimp only
    split
    next state =>
      have isBound : (s.head h).bound.isSome = true := by rw [← b.legal.bound, state]; rfl
      have clamped := (b.inHand h).setHead (c := { s.head h with state := .clamped }) (.of_bound rfl isBound) rfl
      refine clamped.openIfReady (by rw [head_setHead_self]) (fun l link => ?_) fun f => ?_
      · rw [head_setHead_self] at link
        have x := b.placed h l nofun link
        have track := position_lt s l.slot
        have early (f : full) : s.position l.slot < s.stationC := (x.charge f (.inl state)).2 track
        refine State.Place.congr (s := s) ?_ rfl
        show s.Place full 0 64 (if s.atGas (s.position l.slot) = true then .charging else .clamped) (s.position l.slot)
        split
        next => exact settled x (fun f _ => early f) nofun
        next away =>
          refine settled x (fun _ e => by rcases e with e | e <;> cases e) fun f _ => ?_
          have := early f
          simp only [State.atGas, decide_eq_true_eq] at away
          omega
      · rw [head_setHead_self]
        exact (b.queued f h nofun).moved (by rw [state]; decide) rfl (by exact nofun)
    next => exact b
  | bottom =>
    unfold Machine.eventMove
    dsimp only
    split
    next state =>
      have isBound : (s.head h).bound.isSome = true := by rw [← b.legal.bound, state]; rfl
      have crimped := (b.inHand h).setHead (c := { s.head h with state := .crimped }) (.of_bound rfl isBound) rfl
      refine crimped.putDown (fun l link => ?_) fun f => ?_
      · rw [head_setHead_self] at link ⊢
        exact ((b.placed h l nofun link).free (st' := .crimped) nofun nofun nofun).congr rfl
      · rw [head_setHead_self]
        exact (b.queued f h nofun).moved (by rw [state]; decide) rfl (by exact nofun)
    next => exact b
  | _ => exact b

theorem takeEvent (b : s.Bonded full 0 64 none) (w : Word) (k : Option EventKind) (lag : Word) :
    (takeEvent w k lag s).Bonded full 0 64 none := by
  unfold Machine.takeEvent
  split
  · exact b.faultEvent _
  · unfold Machine.headEvent
    split
    · exact b.raiseAlert _
    · exact (b.writeLoaded fun r => capture_tie _ _ r).eventMove _ _
  · exact b.raiseAlert _

/-- The end of a charge of a head at its place. -/
theorem chargeEnds (b : s.Bonded full 0 64 (some h)) (state : (s.head h).state = .charging)
    (place : ∀ l, (s.head h).bound = some l → s.Place full 0 64 .charging (s.position l.slot)) :
    (Machine.endCharge h s).Bonded full 0 64 none :=
  b.endCharge state fun l link => (place l link).free nofun nofun nofun

theorem headFlow (b : s.Bonded full 0 64 none) (h : Fin 24) (n : Nat) : (headFlow h n s).Bonded full 0 64 none := by
  unfold Machine.headFlow
  split
  · exact b.raiseAlert _
  next l _ =>
    have counted : (addPulses l n s).Bonded full 0 64 none := b.writeLoaded fun _ => rfl
    dsimp only
    split
    next charging =>
      have lowered := (counted.inHand h).setHead
        (c := { (addPulses l n s).head h with doseCounter := ((addPulses l n s).head h).doseCounter - n })
        ((counted.legal.head h).of_same rfl rfl rfl) rfl
      split
      · refine lowered.chargeEnds (by rw [head_setHead_self]; exact charging) fun m link => ?_
        rw [head_setHead_self] at link
        have x := counted.placed h m nofun link
        rw [charging] at x
        exact x.congr rfl
      · refine lowered.putDown (fun m link => ?_) fun f => ?_
        · rw [head_setHead_self] at link ⊢
          exact (counted.placed h m nofun link).congr rfl
        · rw [head_setHead_self]
          exact (counted.queued f h nofun).same rfl rfl
    next => exact counted

theorem takeReport (b : s.Bonded full 0 64 none) (r : Report) : (takeReport s r).Bonded full 0 64 none := by
  cases r with
  | infeed => exact b.plain rfl rfl rfl rfl rfl rfl
  | event w k lag => exact b.takeEvent w k lag
  | flow w n =>
    show (takeFlow w n s).Bonded full 0 64 none
    unfold takeFlow
    split
    · exact b.headFlow _ _
    · exact b.raiseAlert _
  | measure k ok slot serial v =>
    show (takeMeasure k ok slot serial v s).Bonded full 0 64 none
    unfold takeMeasure
    split
    · unfold deliverMeasure
      dsimp only
      split
      · split
        · exact b.setTied (measure_tie _ _ _)
        · exact b
      · split
        · exact b.raiseAlert _
        · exact b.raiseAlert _
    · exact b.raiseAlert _

/-! ### The charge limit, the frame loss and the departures -/

theorem nextChargeExpiry (b : s.Bonded full 0 64 none) : (nextChargeExpiry s).Bonded full 0 64 none := by
  unfold Machine.nextChargeExpiry
  split
  next h due =>
    have charging : (s.head h).state = .charging := by
      have := List.find?_some due
      unfold State.chargeDue at this
      split at this
      · simp only [Bool.and_eq_true, beq_iff_eq] at this
        exact this.1
      · cases this
    refine ((b.inHand h).addBoundCause h .overtime).chargeEnds (by rw [addBoundCause_head, charging]) fun l link => ?_
    rw [addBoundCause_head] at link
    have x := b.placed h l nofun link
    have calm : Quiet onlyFull s (Machine.addBoundCause h .overtime s) := Quiet.addBoundCause h .overtime s
    rw [calm.position, ← charging]
    exact x.congr calm.stations
  next => exact b

theorem frameLoss (b : s.Bonded full 0 64 none) : (frameLoss s).Bonded full 0 64 none := by
  unfold Machine.frameLoss
  generalize List.finRange 24 = hs
  induction hs generalizing s with
  | nil => exact b
  | cons h hs ih =>
    refine ih ?_
    unfold frameLossHead
    split
    · exact b.addBoundCause _ _
    · exact b

/-- The oldest command leaves. -/
theorem commandDeparts (b : s.Bonded full 0 64 none) {c : HeadCommand} {rest : List HeadCommand}
    (queue : s.lp.queue = c :: rest) : (commandDeparts { s with lp.queue := rest } c).Bonded full 0 64 none := by
  have others (j : Fin 24) (away : j ≠ c.head) : rest.filter (fun e => e.head == j) = s.queuedFor j := by
    rw [State.queuedFor, queue, List.filter_cons_of_neg (by simpa using Ne.symm away)]
  have own : s.queuedFor c.head = c :: rest.filter (fun e => e.head == c.head) := by
    rw [State.queuedFor, queue, List.filter_cons_of_pos (by simp)]
  have held := (b.inHand c.head).requeued rest fun _ => others
  have fewer (f : full) {e : HeadCommand} (mem : e ∈ rest.filter (fun e => e.head == c.head)) (kind : e.kind = .openGas) :
      (s.head c.head).state = .charging := (b.queued f c.head nofun).opens e (by rw [own]; exact .tail _ mem) kind
  have one (f : full) : ((rest.filter (fun e => e.head == c.head)).filter (fun e => e.kind == .openGas)).length ≤ 1 := by
    have := (b.queued f c.head nofun).oneOpen
    rw [own] at this
    exact (((List.sublist_cons_self c _).filter _).length_le).trans this
  have last (f : full) (aborting : (s.head c.head).state = .aborting) :
      c = abortCommand c.head ∧ rest.filter (fun e => e.head == c.head) = [] := by
    have := (b.queued f c.head nofun).aborts aborting
    rw [own] at this
    exact List.cons.inj this
  have put (kept : c.kind ≠ .abort) : State.Bonded full 0 64 none { s with lp.queue := rest } :=
    held.putDown (fun l link => (b.placed c.head l nofun link).congr rfl) fun f =>
      ⟨fun e mem kind => fewer f mem kind, one f, (b.queued f c.head nofun).timer, fun aborting => by
        have := (last f aborting).1
        rw [this] at kept
        exact absurd rfl kept⟩
  unfold Machine.commandDeparts
  cases kind : c.kind with
  | openGas =>
    dsimp only
    unfold armTimer
    split
    next l bound =>
      have armed := held.setHead (c := { s.head c.head with
        timer := some ⟨s.clock, (s.recipeWord (s.record l.slot).recipe 3).toNat * Config.ticksPerMs⟩ })
        ((b.legal.head c.head).of_same rfl rfl rfl) rfl
      refine armed.putDown (fun m link => ?_) fun f => ?_
      · rw [head_setHead_self] at link ⊢
        exact (b.placed c.head m nofun link).congr rfl
      · have charging := (b.queued f c.head nofun).opens c (by rw [own]; exact .head _) kind
        rw [head_setHead_self]
        refine ⟨fun e mem kind => fewer f mem kind, one f, fun _ => charging, fun aborting => ?_⟩
        exact nomatch (charging.symm.trans aborting)
    next => exact put (by rw [kind]; decide)
  | abort =>
    dsimp only
    unfold abortDeparts
    split
    next aborting =>
      have aborting : (s.head c.head).state = .aborting := aborting
      have none : (s.head c.head).bound = none := by
        have := b.legal.bound c.head
        rw [aborting] at this
        simpa [HeadState.isBound] using this
      have freed := held.setHead (c := { s.head c.head with state := freeState (s.head c.head) })
        (.of_free (.inr (.inr rfl)) none) rfl
      refine freed.putDown (fun l link => ?_) fun f => ?_
      · rw [head_setHead_self] at link
        exact nomatch none.symm.trans link
      · rw [head_setHead_self]
        have empty := (last f aborting).2
        show HeadQueue c.head _ (rest.filter (fun e => e.head == c.head))
        rw [empty]
        exact .of_noOpen (fun e mem => nomatch mem) ((b.queued f c.head nofun).noTimer (by rw [aborting]; decide))
          freeState_ne.2
    next away =>
      exact held.putDown (fun l link => (b.placed c.head l nofun link).congr rfl) fun f =>
        ⟨fun e mem kind => fewer f mem kind, one f, (b.queued f c.head nofun).timer, fun aborting => absurd aborting away⟩
  | _ => exact put (by rw [kind]; decide)

/-- A departure's effects do not read the queue. -/
theorem commandDeparts_requeue (s : State) (c : HeadCommand) (q : List HeadCommand) :
    Machine.commandDeparts { s with lp.queue := q } c = { Machine.commandDeparts s c with lp.queue := q } := by
  rw [commandDeparts_eq, commandDeparts_eq]
  rfl

theorem foldl_commandDeparts (cs rest : List HeadCommand) (b : s.Bonded full 0 64 none) (queue : s.lp.queue = cs ++ rest) :
    (cs.foldl Machine.commandDeparts { s with lp.queue := rest }).Bonded full 0 64 none := by
  induction cs generalizing s with
  | nil =>
    have same : ({ s with lp.queue := rest } : State) = s := by rw [← List.nil_append rest, ← queue]
    rw [same]
    exact b
  | cons c cs ih =>
    have one := b.commandDeparts queue
    have again : Machine.commandDeparts { s with lp.queue := rest } c =
        { Machine.commandDeparts { s with lp.queue := cs ++ rest } c with lp.queue := rest } := by
      rw [commandDeparts_requeue, commandDeparts_requeue s c (cs ++ rest)]
    rw [List.foldl_cons, again]
    refine ih one ?_
    rw [commandDeparts_requeue]

theorem departCommands (b : s.Bonded full 0 64 none) : (departCommands s).Bonded full 0 64 none :=
  b.foldl_commandDeparts _ _ (List.take_append_drop _ _).symm

/-! ### Requests -/

/-- A head's flag and state change outside a cycle. -/
theorem enableHead (b : s.Bonded full 0 64 none) (h : Fin 24) : (enableHead s h).Bonded full 0 64 none := by
  have legal := (b.legal.enableHead h).head h
  unfold Machine.enableHead at legal ⊢
  dsimp only at legal ⊢
  rw [head_setHead_self] at legal
  refine ((b.inHand h).setHead legal rfl).putDown (fun l link => ?_) fun f => ?_
  · rw [head_setHead_self] at link ⊢
    have isBound : (s.head h).state.isBound = true := by rw [b.legal.bound h, show (s.head h).bound = some l from link]; rfl
    have kept : ¬ ((s.head h).state = .disabled ∨ (s.head h).state = .faulted) := by
      rintro (e | e) <;> exact nomatch (e ▸ isBound)
    rw [if_neg kept]
    exact (b.placed h l nofun link).congr rfl
  · rw [head_setHead_self]
    by_cases out : (s.head h).state = .disabled ∨ (s.head h).state = .faulted
    · rw [if_pos out]
      refine (b.queued f h nofun).moved (fun e => ?_) rfl (by exact nofun)
      rcases out with out | out <;> exact nomatch (out.symm.trans e)
    · rw [if_neg out]
      exact (b.queued f h nofun).same rfl rfl

theorem disableHead (b : s.Bonded full 0 64 none) (h : Fin 24) : (disableHead s h).Bonded full 0 64 none := by
  have legal := (b.legal.disableHead h).head h
  unfold Machine.disableHead at legal ⊢
  dsimp only at legal ⊢
  rw [head_setHead_self] at legal
  refine ((b.inHand h).setHead legal rfl).putDown (fun l link => ?_) fun f => ?_
  · rw [head_setHead_self] at link ⊢
    have isBound : (s.head h).state.isBound = true := by rw [b.legal.bound h, show (s.head h).bound = some l from link]; rfl
    have kept : ¬ (s.head h).state = .idle := fun e => nomatch (e ▸ isBound)
    rw [if_neg kept]
    exact (b.placed h l nofun link).congr rfl
  · rw [head_setHead_self]
    by_cases idle : (s.head h).state = .idle
    · rw [if_pos idle]
      exact (b.queued f h nofun).moved (fun e => nomatch (idle.symm.trans e)) rfl (by exact nofun)
    · rw [if_neg idle]
      exact (b.queued f h nofun).same rfl rfl

theorem stopHead (b : s.Bonded full 0 64 none) (h : Fin 24) : (stopHead s h).Bonded full 0 64 none := by
  have off := b.disableHead h
  unfold Machine.stopHead
  dsimp only
  split
  next bound => exact (off.inHand h).abortHead (off.working_of bound) .headStopped
  next => exact off

theorem stopHeads (b : s.Bonded full 0 64 none) (hs : List (Fin 24)) : (stopHeads hs s).2.Bonded full 0 64 none := by
  induction hs generalizing s with
  | nil => exact b
  | cons h hs ih => exact ih (b.stopHead h)

theorem folded {f : State → Fin 24 → State} (each : ∀ s h, s.Bonded full 0 64 none → (f s h).Bonded full 0 64 none)
    (hs : List (Fin 24)) (b : s.Bonded full 0 64 none) : (hs.foldl f s).Bonded full 0 64 none := by
  induction hs generalizing s with
  | nil => exact b
  | cons h hs ih => exact ih (each s h b)

/-- The mode moves between RUN and DRAIN. -/
theorem remoded (b : s.Bonded full 0 64 none) (work : s.working) {m : Mode} (now : m = .run ∨ m = .drain) :
    State.Bonded full 0 64 none { s with nc.mode := m } :=
  b.of_ties (b.legal.same_heads rfl) (fun _ => (b.table work).congr rfl) (fun _ => rfl) (fun _ => rfl) (fun _ _ => now)
    (fun h l away link => (b.placed h l away link).congr rfl) b.queued

theorem idle_standby (u : State) (standby : u.nc.mode = .standby) : ¬ u.working := by
  rintro (e | e) <;> exact nomatch (standby.symm.trans e)

/-- The ring is empty, and the node comes to STANDBY. -/
theorem enterStandby (b : s.Bonded full 0 64 none) (free : ∀ h, (s.head h).bound = none) :
    (enterStandby s).Bonded full 0 64 none :=
  b.rested free (fun w => absurd w (idle_standby (Machine.enterStandby s) rfl)) rfl rfl rfl

theorem served {t : State} (a : s.Accounted) (b : s.Bonded full 0 64 none) (request : Served s t) :
    t.Bonded full 0 64 none := by
  have asleep (m : s.nc.mode ≠ .run ∧ s.nc.mode ≠ .drain) : ¬ s.working := fun w => w.elim m.1 m.2
  have emptied (empty : s.nc.ringEmpty = true) (h : Fin 24) : (s.head h).bound = none :=
    b.free_of_empty ((allEmpty_iff s).mp (a.reported.symm.trans empty)) h
  induction request with
  | answered => exact b
  | woken wait =>
    have counted : State.Bonded full 0 64 none (restartGap { s with nc.wakeCount := 0 }) := b.plain rfl rfl rfl rfl rfl rfl
    exact counted.enterStandby (b.free_of_resting (asleep (by simp [wait])))
  | station table standby =>
    have rest := asleep (by simp [standby])
    exact b.rested (b.free_of_resting rest) (fun w => absurd w rest) rfl rfl rfl
  | moved _ _ ih => exact ih.plain rfl rfl rfl rfl rfl rfl
  | run idle found =>
    rcases found with ⟨standby, valid⟩ | drain
    · exact b.rested (b.free_of_resting (asleep (by simp [standby])))
        (fun _ => (State.Ordered.of_valid valid).congr rfl) rfl rfl rfl
    · exact b.remoded (.inr drain) (.inl rfl)
  | drain found => exact b.remoded (.inl found) (.inr rfl)
  | standby _ empty => exact b.enterStandby (emptied empty)
  | clearTrip found =>
    have cleared : State.Bonded full 0 64 none { s with nc.tripCause := none } := b.plain rfl rfl rfl rfl rfl rfl
    exact cleared.enterStandby (b.free_of_resting (asleep (by simp [found])))
  | enabled hs => exact b.folded (fun _ h b => b.enableHead h) hs
  | disabled hs => exact b.folded (fun _ h b => b.disableHead h) hs
  | stopped hs => exact b.stopHeads hs
  | _ => exact b.plain rfl rfl rfl rfl rfl rfl

/-! ### Advances -/

/-- A record at which no link points is unbound. -/
theorem unbound_at {d n : Nat} (b : s.Bonded full d n none) {k : Fin 64}
    (away : ∀ h l, (s.head h).bound = some l → l.slot ≠ k) : (s.record k).bound = false := by
  cases bound : (s.record k).bound with
  | false => rfl
  | true =>
    obtain ⟨-, h, -, link⟩ := b.bonds k bound
    exact absurd rfl (away h _ link)

/-- The move of the track moves every place. -/
theorem tracked {d n d' n' : Nat} (b : s.Bonded full d n none) (o : Fin 64)
    (place : ∀ h l, (s.head h).bound = some l → s.Place full d n (s.head h).state (s.position l.slot) →
      s.Place full d' n' (s.head h).state (State.position { s with tu.origin := o } l.slot)) :
    State.Bonded full d' n' none { s with tu.origin := o } :=
  ⟨b.legal.same_heads rfl, fun w => (b.table w).congr rfl, fun h l link => (b.links h l link).congr rfl, b.bonds,
    b.working, fun h l _ link => (place h l link (b.placed h l nofun link)).congr rfl, b.queued⟩

theorem originForward (b : s.Bonded full 0 64 none) : (originForward s).Bonded full 0 0 none := by
  refine b.tracked _ fun h l link x => ?_
  have track := position_lt s l.slot
  have below := x.taken track
  have last := (b.ordered link).last
  have moved := position_originForward s l.slot
  have o := b.ordered link
  have := o.afterRelease
  have := o.crimped
  have := o.gate
  have low := x.low
  rw [if_neg (by omega)] at moved
  rw [show State.position { s with tu.origin := s.tu.origin - 1 } l.slot = s.position l.slot + 1 from moved]
  exact ⟨by omega, by omega, fun _ => by omega, fun early => by omega,
    fun f e => ⟨(x.charge f e).2 track, fun early => by omega⟩, fun f e => ⟨(x.clamp f e).2 track, fun early => by omega⟩⟩

theorem originReverse (b : s.Bonded full 0 64 none) : (originReverse s).Bonded full 1 64 none := by
  refine b.tracked _ fun h l link x => ?_
  have track := position_lt s l.slot
  have below := x.taken track
  have first := (b.ordered link).first
  have low := x.low
  have moved := position_originReverse s l.slot
  rw [if_neg (by omega)] at moved
  rw [show State.position { s with tu.origin := s.tu.origin + 1 } l.slot = s.position l.slot - 1 from moved]
  refine ⟨by omega, by omega, fun _ => by omega, fun _ => by omega, fun f e => ?_, fun f e => ?_⟩
  · have := (x.charge f e).2 track
    omega
  · have := (x.clamp f e).2 track
    omega

theorem admission (b : s.Bonded full 0 0 none) (φ : Fin 24) : (admission φ s).2.Bonded full 0 0 none := by
  unfold Machine.admission
  split
  next run =>
    split
    next alert _ =>
      cases alert with
      | none => exact b
      | some a => exact b.raiseAlert a
    next c p _ =>
      have unbound : (s.record (s.slotAt 0)).bound = false := b.unbound_at fun h l link there => by
        have := (b.placed h l nofun link).toCome (Nat.zero_le _)
        rw [there, position_slotAt s (by decide)] at this
        omega
      exact (b.setUnbound (k := s.slotAt 0) (r := s.firstRecord φ c p) unbound rfl).plain rfl (feed_ring φ c p s) rfl rfl
        rfl rfl
  next => exact b

theorem giveVerdict_heads (k : Fin 64) (s : State) : (giveVerdict k s).hu = s.hu ∧ (giveVerdict k s).lp = s.lp ∧
    (giveVerdict k s).nc.mode = s.nc.mode := by
  rw [giveVerdict_eq, rearmIf_hu, rearmIf_lp, rearmIf_mode, lowerInUse_hu, lowerInUse_lp, lowerInUse_nc]
  exact ⟨rfl, rfl, rfl⟩

theorem gateArrival (b : s.Bonded full 0 64 none) : (gateArrival s).Bonded full 0 64 none := by
  unfold Machine.gateArrival State.slotAtStation
  by_cases track : s.stationJ ≤ 63
  · rw [if_pos track]
    dsimp only
    split
    next loaded =>
      have unbound : (s.record (s.slotAt s.stationJ)).bound = false := b.unbound_at fun h l link there => by
        have below := (b.placed h l nofun link).taken (position_lt s l.slot)
        have o := b.ordered link
        have := o.afterRelease
        have := o.crimped
        have := o.gate
        rw [there, position_slotAt s (by omega)] at below
        omega
      obtain ⟨hu, lp, mode⟩ := giveVerdict_heads (s.slotAt s.stationJ) s
      have judged := b.setUnbound (k := s.slotAt s.stationJ) (r := s.judged (s.slotAt s.stationJ)) unbound unbound
      refine judged.plain (by rw [hu]; rfl) ?_ (by rw [lp]; rfl) mode ?_ ?_ <;> rw [State.Accounted.giveVerdict_tu]
    next => exact b
  · rw [if_neg track]
    exact b

theorem backOut_heads (s : State) : (backOut s).hu = s.hu ∧ (backOut s).lp = s.lp ∧ (backOut s).nc.mode = s.nc.mode := by
  unfold backOut
  dsimp only
  split
  · exact ⟨rfl, rfl, rfl⟩
  · exact ⟨rfl, rfl, rfl⟩
  · rw [rearmIf_hu, rearmIf_lp, rearmIf_mode, lowerInUse_hu, lowerInUse_lp, lowerInUse_nc]
    exact ⟨rfl, rfl, rfl⟩

theorem backOut (b : s.Bonded full 0 64 none) : (backOut s).Bonded full 0 64 none := by
  obtain ⟨hu, lp, mode⟩ := backOut_heads s
  obtain ⟨origin, stations⟩ := State.Accounted.backOut_tu s
  have unbound : (s.record (s.slotAt 0)).bound = false := b.unbound_at fun h l link there => by
    have low := (b.placed h l nofun link).low
    have first := (b.ordered link).first
    rw [there, position_slotAt s (by decide)] at low
    omega
  refine (b.setUnbound (k := s.slotAt 0) (r := if (s.record (s.slotAt 0)).state = .empty then s.record (s.slotAt 0)
    else Record.cleared) unbound ?_).same (by rw [hu]; rfl) (fun k => ?_) (by rw [lp]; rfl) mode stations origin
  · split
    · exact unbound
    · rfl
  · rw [State.Accounted.backedOut_record, record_setRecord]
    by_cases own : k = s.slotAt 0
    · by_cases empty : (s.record (s.slotAt 0)).state = .empty
      · rw [if_neg (fun both => both.2 empty), if_pos own, if_pos empty, own]
      · rw [if_pos ⟨own, empty⟩, if_pos own, if_neg empty]
    · rw [if_neg (fun both => own both.1), if_neg own]

theorem advance (a : s.Accounted) (b : s.Bonded full 0 64 none) (x : Advance) (φ : Fin 24) :
    (takeAdvance x φ s).2.Bonded full 0 64 none := by
  have drained {u : State} (b : u.Bonded full 0 64 none) : (endDrain (reportRing u)).Bonded full 0 64 none := by
    have reported : (reportRing u).Bonded full 0 64 none := b.plain rfl rfl rfl rfl rfl rfl
    unfold endDrain
    split
    next found => exact reported.enterStandby (b.free_of_empty ((allEmpty_iff u).mp found.2))
    next => exact reported
  cases x with
  | forward =>
    rw [State.Accounted.takeAdvance_forward]
    have exit : (exitAtX s).Bonded full 0 64 none :=
      b.setUnbound (b.unbound_unloaded (a.exit_notLoaded (by decide) (by decide))) rfl
    exact drained ((exit.originForward.admission φ).forwardArrivals φ).gateArrival
  | reverse =>
    rw [State.Accounted.takeAdvance_reverse]
    exact drained b.backOut.originReverse.jogBackArrival
  | dwell =>
    rw [State.Accounted.takeAdvance_dwell]
    exact drained b

/-! ### The other events -/

theorem completeClear (b : s.Bonded full 0 64 none) : (completeClear s).Bonded full 0 64 none := by
  unfold Machine.completeClear
  split
  next target _ _ =>
    split
    · cases target <;> exact b.plain rfl rfl rfl rfl rfl rfl
    · exact b
  all_goals exact b

theorem head_warmReset (s : State) (h : Fin 24) : (warmReset s).head h = (s.head h).warm := by
  rw [warmReset_eq]
  simp [State.head]

theorem warmReset (s : State) : (warmReset s).Bonded full 0 64 none := by
  have head := head_warmReset s
  have mode : (Machine.warmReset s).nc.mode = .standby := by rw [warmReset_eq]
  refine ⟨.of_each fun h => by rw [head]; exact .warm _, fun w => absurd w (idle_standby _ mode), fun h l link => ?_,
    fun k on => ?_, fun h on => ?_, fun h l _ link => ?_, fun _ h _ => ?_⟩
  · rw [head] at link; cases link
  · rw [warmReset_record] at on; cases on
  · rw [head] at on; cases on
  · rw [head] at link; cases link
  · have queue : (Machine.warmReset s).queuedFor h = [] := by rw [State.queuedFor, warmReset_eq]; rfl
    rw [head, queue]
    refine .of_noOpen (fun e mem => nomatch mem) rfl ?_
    unfold HeadContext.warm
    dsimp only
    split
    · decide
    · exact freeState_ne.2

theorem completeReset (b : s.Bonded full 0 64 none) : (completeReset s).Bonded full 0 64 none := by
  unfold Machine.completeReset
  split
  · split
    · exact warmReset s
    · exact b
  all_goals exact b

theorem release (a : s.Accounted) (b : s.Bonded full 0 64 none) (straps : BitVec 6) :
    (releasePin straps s).Bonded full 0 64 none := by
  unfold releasePin
  split
  next pin =>
    have wait := a.held pin
    have rest : ¬ s.working := by simp [State.working, wait]
    exact b.rested (b.free_of_resting rest) (fun w => by rcases w with e | e <;> cases e) rfl rfl rfl
  next => exact b

/-! ### The invariants of the claims -/

/-- A settled place lies from E to R − 1, and obeys the rules of its state. -/
theorem settled_iff {st : HeadState} {p : Nat} (track : p < 64) : s.Place full 0 64 st p ↔
    s.stationE ≤ p ∧ p < s.stationR ∧ (full → st = .engaged ∨ st = .charging → p < s.stationC) ∧
      (full → st = .clamped → p < s.stationG) :=
  ⟨fun x => ⟨x.low, x.taken track, fun f e => (x.charge f e).2 track, fun f e => (x.clamp f e).2 track⟩,
    fun ⟨low, below, charge, clamp⟩ => ⟨low, below.le, fun _ => by omega, fun _ => below,
      fun f e => ⟨(charge f e).le, fun _ => charge f e⟩, fun f e => ⟨(clamp f e).le, fun _ => clamp f e⟩⟩⟩

theorem weaken (b : s.Bonded True 0 64 none) (full : Prop) : s.Bonded full 0 64 none :=
  ⟨b.legal, b.table, b.links, b.bonds, b.working, fun h l away link =>
    (fun x => ⟨x.low, x.high, x.toCome, x.taken, fun _ => x.charge trivial, fun _ => x.clamp trivial⟩)
      (b.placed h l away link), fun _ => b.queued trivial⟩

theorem joined (b : s.Bonded full 0 64 none) (a : s.Accounted) : s.Joined where
  accounted := a
  heads := b.legal
  joinedHead h l link := by
    have x := b.links h l link
    obtain ⟨low, below, -⟩ := (settled_iff (position_lt s l.slot)).mp (b.placed h l nofun link)
    exact ⟨x.named, x.head, x.bound, low, below⟩
  joinedRecord := b.bonds
  working := b.working

theorem queueLegal (b : s.Bonded True 0 64 none) (a : s.Accounted) : s.QueueLegal where
  joined := b.joined a
  opens c mem kind := (b.queued trivial c.head nofun).opens c (mem_queuedFor.mpr ⟨mem, rfl⟩) kind
  oneOpen h := (b.queued trivial h nofun).oneOpen
  timers h := (b.queued trivial h nofun).timer
  aborts h := (b.queued trivial h nofun).aborts
  positions h l link := by
    obtain ⟨-, -, charge, clamp⟩ := (settled_iff (position_lt s l.slot)).mp (b.placed h l nofun link)
    exact ⟨charge trivial, clamp trivial⟩

end State.Bonded

theorem State.Joined.ordered {s : State} (j : s.Joined) (work : s.working) : s.Ordered :=
  .of_valid (j.accounted.table (work.elim .inl fun drain => .inr (.inl drain)))

theorem State.Joined.bonded {s : State} (j : s.Joined) : s.Bonded False 0 64 none where
  legal := j.heads
  table := j.ordered
  links h l link := by
    obtain ⟨named, head, bound, -⟩ := j.joinedHead h l link
    exact ⟨named, head, bound⟩
  bonds := j.joinedRecord
  working := j.working
  placed h l _ link := by
    obtain ⟨-, -, -, low, below⟩ := j.joinedHead h l link
    exact (State.Bonded.settled_iff (position_lt s l.slot)).mpr ⟨low, below, nofun, nofun⟩
  queued := nofun

theorem State.QueueLegal.bonded {s : State} (q : s.QueueLegal) : s.Bonded True 0 64 none :=
  { q.joined.bonded with
    placed := fun h l _ link => by
      obtain ⟨-, -, -, low, below⟩ := q.joined.joinedHead h l link
      obtain ⟨charge, clamp⟩ := q.positions h l link
      exact (State.Bonded.settled_iff (position_lt s l.slot)).mpr ⟨low, below, fun _ => charge, fun _ => clamp⟩
    queued := fun _ h _ => by
      refine ⟨fun c mem kind => ?_, q.oneOpen h, q.timers h, q.aborts h⟩
      obtain ⟨mem, own⟩ := mem_queuedFor.mp mem
      exact own ▸ q.opens c mem kind }

/-- The bonds, with the account that tells where the records stand. -/
def State.Kept (full : Prop) (s : State) : Prop := s.Accounted ∧ s.Bonded full 0 64 none

theorem State.Kept.invariant (full : Prop) : Invariant (State.Kept full) where
  link s transit gap count phase unchecked out pending clock k :=
    ⟨State.Accounted.invariant.link s transit gap count phase unchecked out pending clock k.1,
      k.2.plain rfl rfl rfl rfl rfl rfl⟩
  trip cause s k := ⟨State.Accounted.invariant.trip cause s k.1, k.2.requestTrip cause⟩
  advance x φ _ k := ⟨k.1.advance x φ, k.2.advance k.1 x φ⟩
  report _ r k := ⟨k.1.taken r, k.2.takeReport r⟩
  loss s k := ⟨State.Accounted.invariant.loss s k.1, (k.2.raiseAlert _).frameLoss⟩
  request q s pin k := ⟨k.1.served pin (takeRequest_served q s), k.2.served k.1 (takeRequest_served q s)⟩
  departs s k := ⟨State.Accounted.invariant.departs s k.1, k.2.departCommands⟩
  charge s k := ⟨State.Accounted.invariant.charge s k.1, k.2.nextChargeExpiry⟩
  clear _ k := ⟨k.1.completeClear, k.2.completeClear⟩
  reset _ k := ⟨k.1.completeReset, k.2.completeReset⟩
  cold s k := by
    obtain ⟨-, -, -, -, -, -, legal⟩ := resetMeetsInvariants
    exact ⟨State.Accounted.invariant.cold s k.1, (legal.bonded.weaken full).plain rfl rfl rfl rfl rfl rfl⟩
  release straps _ k := ⟨k.1.release straps, k.2.release k.1 straps⟩

/-- Settles O59: the bonds without the queue rules are an invariant of every part of an event. -/
theorem stepKeepsJoins : Obligations.StepKeepsJoins := fun _ _ joined taken =>
  have kept := (State.Kept.invariant False).step taken ⟨joined.accounted, joined.bonded⟩
  kept.2.joined kept.1

/-- Settles O60: the bonds with the queue rules are one too. -/
theorem stepKeepsQueue : Obligations.StepKeepsQueue := fun _ _ legal taken =>
  have kept := (State.Kept.invariant True).step taken ⟨legal.joined.accounted, legal.bonded⟩
  kept.2.queueLegal kept.1

end Sys2Proof.Machine
end

-- ==== Proofs: head events, flow reports, the charge limit and the frame loss ====
section
/-! PROOF. The exact states that the operations of HU reach from a joined state: the unbinding of a head, the end of a charge, the
events and flow reports of R56 and R70, the expiry of R68 and the marks of R130. -/

namespace Sys2Proof.Machine

/-! ### Writing twice, and writing what stands there -/

theorem setRecord_setRecord (s : State) (k : Fin 64) (r r' : Record) : (s.setRecord k r).setRecord k r' = s.setRecord k r' := by
  simp [State.setRecord]

theorem setHead_setHead (s : State) (h : Fin 24) (c c' : HeadContext) : (s.setHead h c).setHead h c' = s.setHead h c' := by
  simp [State.setHead]

theorem setRecord_self (s : State) (k : Fin 64) : s.setRecord k (s.record k) = s := by
  simp [State.setRecord, State.record]

theorem setHead_self (s : State) (h : Fin 24) : s.setHead h (s.head h) = s := by
  simp [State.setHead, State.head]

theorem setRecord_setHead (s : State) (k : Fin 64) (r : Record) (h : Fin 24) (c : HeadContext) :
    (s.setHead h c).setRecord k r = (s.setRecord k r).setHead h c := rfl

theorem addBoundCause_eq {s : State} {h : Fin 24} {l : Link} (bound : (s.head h).bound = some l)
    (named : s.namesLoaded l = true) (c : Cause) :
    addBoundCause h c s = s.setRecord l.slot { s.record l.slot with causes := addCause c (s.record l.slot).causes } := by
  unfold addBoundCause
  rw [bound]
  exact writeLoaded_named named _

/-- A bound head that leaves its cycle with a cause on its record: both in full (R42, R47, R50, R54). -/
theorem leaveTo_unbind_eq {s : State} {h : Fin 24} {l : Link} (bound : (s.head h).bound = some l)
    (named : s.namesLoaded l = true) (c : Cause) (st : HeadState) :
    leaveTo h st (unbind h (addBoundCause h c s)) =
      (s.setRecord l.slot { s.record l.slot with
        bound := false, causes := addCause c (s.record l.slot).causes }).setHead h { s.head h with
          state := st, bound := none, trailing := some l, timer := none } := by
  rw [addBoundCause_eq bound named]
  generalize caused : ({ s.record l.slot with causes := addCause c (s.record l.slot).causes } : Record) = r
  have state : r.state = .loaded := by rw [← caused]; exact (namesLoaded_iff.mp named).1
  have serial : r.serial = l.serial := by rw [← caused]; exact (namesLoaded_iff.mp named).2
  have still : ((s.setRecord l.slot r).setHead h { s.head h with
      bound := none, trailing := some l }).namesLoaded l = true := by
    rw [namesLoaded_iff, setHead_record, record_setRecord_self]
    exact ⟨state, serial⟩
  rw [unbind_bound (s := s.setRecord l.slot r) bound, setRecord_head, writeLoaded_named still, setHead_record,
    record_setRecord_self, setRecord_setHead, setRecord_setRecord, leaveTo, head_setHead_self, setHead_setHead]
  rw [← caused]

/-! ### Ties through a write -/

/-- The links, the bound states and the ties of the records stay, and so do the ties of the state. -/
theorem State.Tied.congr {s t : State} (tied : s.Tied) (bound : ∀ h, (t.head h).bound = (s.head h).bound)
    (state : ∀ h, (t.head h).state.isBound = (s.head h).state.isBound)
    (ties : ∀ k, (t.record k).tie = (s.record k).tie) : t.Tied where
  bound h := by rw [state, bound]; exact tied.bound h
  named h l link := by
    obtain ⟨stays, serial, -⟩ := tie_parts (ties l.slot)
    rw [namesLoaded_iff, stays, serial]
    exact namesLoaded_iff.mp (tied.named h l (bound h ▸ link))
  owned k on := by
    obtain ⟨-, serial, -, -, same⟩ := tie_parts (ties k)
    obtain ⟨h, link⟩ := tied.owned k (same.symm.trans on)
    exact ⟨h, by rw [bound, link, State.tagOf, State.tagOf, serial]⟩

/-- A record and a head are written, with the ties of both kept. -/
theorem State.Tied.written {s : State} (tied : s.Tied) {k : Fin 64} {r : Record} {h : Fin 24} {c : HeadContext}
    (tie : r.tie = (s.record k).tie) (bound : c.bound = (s.head h).bound)
    (state : c.state.isBound = (s.head h).state.isBound) : ((s.setRecord k r).setHead h c).Tied := by
  refine tied.congr (fun j => ?_) (fun j => ?_) fun j => ?_
  · rw [head_setHead]
    split
    next own => rw [bound, own]
    next => rfl
  · rw [head_setHead]
    split
    next own => rw [state, own]
    next => rfl
  · rw [setHead_record, record_setRecord]
    split
    next own => rw [tie, own]
    next => rfl

/-- A trip entry does not read the queue it empties. -/
theorem State.TripEntryTo.requeued {cause : TripCause} {s t : State} {q : List HeadCommand}
    (trip : State.TripEntryTo cause { s with lp.queue := q } t) : State.TripEntryTo cause s t :=
  { trip with }

theorem State.TripEntryTo.requeue {cause : TripCause} {s t : State} (trip : State.TripEntryTo cause s t)
    (q : List HeadCommand) : State.TripEntryTo cause { s with lp.queue := q } t :=
  { trip with }

/-- A command that finds no room trips the node. -/
theorem queueCommand_trips {s : State} (tied : s.Tied) (work : s.working) {c : HeadCommand}
    (full : 48 ≤ (s.lp.queue.filter (keepsCommand c)).length) :
    State.TripEntryTo .queueFull s (queueCommand c s) := by
  have emptied : State.Tied { s with lp.queue := s.lp.queue.filter (keepsCommand c) } := tied.same rfl rfl
  rw [queueCommand_full full]
  exact (requestTrip_to emptied work .queueFull).requeued

/-- A command that removes no other joins the queue. -/
theorem queueCommand_joins {s : State} {c : HeadCommand} (all : ∀ e, keepsCommand c e = true)
    (room : s.lp.queue.length < 48) : queueCommand c s = { s with lp.queue := s.lp.queue ++ [c] } := by
  have kept : s.lp.queue.filter (keepsCommand c) = s.lp.queue := State.Bonded.filter_keepsAll _ all
  rw [queueCommand_room (by rw [kept]; exact room), kept]

/-! ### The end of a charge (R44, R68, R70) -/

theorem sendCrimp_early {s : State} {h : Fin 24}
    (early : ∀ l, (s.head h).bound = some l → s.position l.slot < s.stationC) : sendCrimp h s = s := by
  unfold sendCrimp
  split
  next l bound => exact if_neg fun all => absurd all.2.1 (Nat.not_le.mpr (early l bound))
  next => rfl

/-- The charge of a record below C ends: CLOSE is queued, and no CRIMP yet. -/
theorem endCharge_room {s : State} {h : Fin 24}
    (early : ∀ l, (s.head h).bound = some l → s.position l.slot < s.stationC)
    (room : (s.lp.queue.filter (keepsCommand ⟨h, .closeGas, 0⟩)).length < 48) :
    endCharge h s = { leaveTo h .settling s with
      lp.queue := s.lp.queue.filter (keepsCommand ⟨h, .closeGas, 0⟩) ++ [⟨h, .closeGas, 0⟩] } := by
  unfold endCharge
  rw [queueKind, queueCommand_room (s := leaveTo h .settling s) room]
  refine sendCrimp_early fun l bound => early l ?_
  have self : (leaveTo h .settling s).head h = { s.head h with state := .settling, timer := none } := by
    rw [head_leaveTo, if_pos rfl]
  have bound : ((leaveTo h .settling s).head h).bound = some l := bound
  rwa [self] at bound

theorem endCharge_full {s : State} {h : Fin 24} (tied : (leaveTo h .settling s).Tied) (work : s.working)
    (full : 48 ≤ (s.lp.queue.filter (keepsCommand ⟨h, .closeGas, 0⟩)).length) :
    State.TripEntryTo .queueFull (leaveTo h .settling s) (endCharge h s) := by
  have trip := queueCommand_trips tied work full
  unfold endCharge
  have still : sendCrimp h (queueKind h .closeGas (leaveTo h .settling s)) =
      queueKind h .closeGas (leaveTo h .settling s) := by
    refine sendCrimp_early fun l bound => ?_
    rw [queueKind, trip.heads] at bound
    split at bound
    · cases bound
    next free =>
      have none : ((leaveTo h .settling s).head h).bound.isSome = false := by rw [← tied.bound]; simpa using free
      rw [show ((leaveTo h .settling s).head h).bound = some l from bound] at none
      cases none
  rw [still]
  exact trip

/-! ### The target of an event or a flow report (R37, R56, R70) -/

theorem target_bound {s : State} {h : Fin 24} {l : Link} (bound : (s.head h).bound = some l)
    (named : s.namesLoaded l = true) : s.target h = some l := by
  simp [State.target, bound, named]

theorem target_trailing {s : State} {h : Fin 24} {l : Link} (free : (s.head h).bound = none)
    (trailing : (s.head h).trailing = some l) (named : s.namesLoaded l = true) : s.target h = some l := by
  simp [State.target, free, trailing, named]

theorem target_none {s : State} {h : Fin 24} (free : (s.head h).bound = none)
    (stale : ∀ l, (s.head h).trailing = some l → s.namesLoaded l = false) : s.target h = none := by
  cases trailing : (s.head h).trailing with
  | none => simp [State.target, free, trailing]
  | some l => simp [State.target, free, trailing, stale l trailing]

/-- The two ways in which a head has a target. -/
theorem State.Joined.target {s : State} (j : s.Joined) {h : Fin 24} {l : Link}
    (goes : (s.head h).bound = some l ∨ ((s.head h).bound = none ∧ (s.head h).trailing = some l ∧
      (s.record l.slot).state = .loaded ∧ (s.record l.slot).serial = l.serial)) :
    s.target h = some l ∧ s.namesLoaded l = true := by
  rcases goes with bound | ⟨free, trailing, loaded⟩
  · have named := (j.joinedHead h l bound).1
    exact ⟨target_bound bound named, named⟩
  · have named := namesLoaded_iff.mpr loaded
    exact ⟨target_trailing free trailing named, named⟩

theorem State.Joined.stray {s : State} {h : Fin 24} (free : (s.head h).bound = none)
    (stale : ∀ l, (s.head h).trailing = some l →
      ¬ ((s.record l.slot).state = .loaded ∧ (s.record l.slot).serial = l.serial)) : s.target h = none :=
  target_none free fun l trailing => by
    have not := stale l trailing
    rw [← namesLoaded_iff] at not
    simpa using not

/-! ### Events (R50, R56, R57) -/

theorem takeReport_event {w lag : Word} {h : Fin 24} {k : EventKind} (number : w.toNat = h.val) (other : k ≠ .fault)
    (s : State) : takeReport s (.event w (some k) lag) = headEvent h k lag s := by
  show takeEvent w (some k) lag s = _
  unfold takeEvent
  rw [decodeHead_some number]
  cases k with
  | fault => exact absurd rfl other
  | _ => rfl

theorem takeReport_fault {w lag : Word} {h : Fin 24} (number : w.toNat = h.val) (s : State) :
    takeReport s (.event w (some .fault) lag) = faultEvent h s := by
  show takeEvent w (some .fault) lag s = _
  unfold takeEvent
  rw [decodeHead_some number]

theorem headEvent_target {s : State} {h : Fin 24} {l : Link} (target : s.target h = some l)
    (named : s.namesLoaded l = true) (k : EventKind) (lag : Word) :
    headEvent h k lag s = eventMove h k (s.setRecord l.slot ((s.record l.slot).capture k (s.clock - lag.setWidth 32))) := by
  unfold headEvent
  rw [target]
  exact congrArg (eventMove h k) (writeLoaded_named named _)

theorem headEvent_stray {s : State} {h : Fin 24} (none : s.target h = none) (k : EventKind) (lag : Word) :
    headEvent h k lag s = raiseAlert .strayEvent s := by
  unfold headEvent
  rw [none]

/-- What a captured event moves, when it opens no charge. -/
theorem eventMove_eq {s : State} {h : Fin 24} {k : EventKind} (other : ¬ (k = .clamped ∧ (s.head h).state = .engaged)) :
    eventMove h k s = s.setHead h { s.head h with
      state := if k = .bottom ∧ (s.head h).state = .crimping then .crimped else (s.head h).state } := by
  have same (no : ¬ (k = .bottom ∧ (s.head h).state = .crimping)) : s.setHead h { s.head h with
      state := if k = .bottom ∧ (s.head h).state = .crimping then .crimped else (s.head h).state } = s := by
    rw [if_neg no]
    exact setHead_self s h
  cases k with
  | clamped =>
    rw [same (fun both => nomatch both.1)]
    exact if_neg fun engaged => other ⟨rfl, engaged⟩
  | bottom =>
    by_cases crimping : (s.head h).state = .crimping
    · rw [if_pos ⟨rfl, crimping⟩]
      exact if_pos crimping
    · rw [same (fun both => crimping both.2)]
      exact if_neg crimping
  | opened => exact (same (fun both => nomatch both.1)).symm
  | closed => exact (same (fun both => nomatch both.1)).symm
  | fault => exact (same (fun both => nomatch both.1)).symm

theorem capture_eq (r : Record) (k : EventKind) (v : Clock) : r.capture k v = { r with
    captureClamp := if k = .clamped then some (r.captureClamp.getD v) else r.captureClamp
    captureOpen := if k = .opened then some (r.captureOpen.getD v) else r.captureOpen
    captureClose := if k = .closed then some (r.captureClose.getD v) else r.captureClose
    captureBottom := if k = .bottom then some (r.captureBottom.getD v) else r.captureBottom } := by
  cases k <;> rfl

/-- Settles O26: the capture goes to the target, and the state moves by the kind. -/
theorem eventsCaptured : Obligations.EventsCaptured := by
  intro h w lag k s number joined captured other
  rw [takeReport_event number captured]
  refine ⟨fun l goes => ?_, fun free stale => ?_⟩
  · obtain ⟨target, named⟩ := joined.target goes
    rw [headEvent_target target named, eventMove_eq (s := s.setRecord l.slot _) other, capture_eq]
    rfl
  · exact headEvent_stray (State.Joined.stray free stale) k lag

/-- The opening of a charge in full, but for its OPEN (R43, R64 to R66). -/
theorem openCharge_eq {s : State} {h : Fin 24} {l : Link} (named : s.namesLoaded l = true) : openCharge h l s =
    queueKind h .openGas ((s.setRecord l.slot { s.record l.slot with
      doseLoaded := some (trimmedDose s (s.record l.slot))
      causes := addCauseIf (trimFactor s (s.record l.slot)).2 (s.record l.slot).causes }).setHead h { s.head h with
        state := .charging, doseCounter := trimmedDose s (s.record l.slot) }) := by
  unfold openCharge
  dsimp only
  rw [writeLoaded_named named, setRecord_head]

/-- The trim of a can does not read the ring and the heads. -/
theorem trim_written (s : State) (k : Fin 64) (r : Record) (h : Fin 24) (c : HeadContext) (x : Record) :
    trimmedDose ((s.setRecord k r).setHead h c) x = trimmedDose s x ∧
      trimFactor ((s.setRecord k r).setHead h c) x = trimFactor s x := ⟨rfl, rfl⟩

theorem atGas_iff {s : State} {p : Nat} : s.atGas p = true ↔ s.stationG ≤ p ∧ p < s.stationC := decide_eq_true_iff

/-- A CLAMPED event for an ENGAGED head, up to the OPEN. -/
theorem headEvent_clamped {s : State} {h : Fin 24} {l : Link} (j : s.Joined) (bound : (s.head h).bound = some l)
    (engaged : (s.head h).state = .engaged) (lag : Word) {r : Record}
    (captured : r = (s.record l.slot).capture .clamped (s.clock - lag.setWidth 32)) :
    headEvent h .clamped lag s =
      if s.atGas (s.position l.slot) = true then
        queueKind h .openGas ((s.setRecord l.slot { r with
          doseLoaded := some (trimmedDose s r), causes := addCauseIf (trimFactor s r).2 r.causes }).setHead h
            { s.head h with state := .charging, doseCounter := trimmedDose s r })
      else (s.setRecord l.slot r).setHead h { s.head h with state := .clamped } := by
  have named := (j.joinedHead h l bound).1
  have work := j.working h (by rw [bound]; rfl)
  have clamped : headEvent h .clamped lag s =
      openIfReady h ((s.setRecord l.slot r).setHead h { s.head h with state := .clamped }) := by
    rw [headEvent_target (target_bound bound named) named, captured]
    exact if_pos engaged
  have link : (((s.setRecord l.slot r).setHead h { s.head h with state := .clamped }).head h).bound = some l := by
    rw [head_setHead_self, bound]
  have still : ((s.setRecord l.slot r).setHead h { s.head h with state := .clamped }).namesLoaded l = true := by
    rw [namesLoaded_iff, setHead_record, record_setRecord_self, captured]
    exact namesLoaded_iff.mp named
  rw [clamped]
  unfold openIfReady
  rw [link]
  dsimp only
  by_cases gas : s.atGas (s.position l.slot) = true
  · rw [if_pos gas, if_pos ⟨by rw [head_setHead_self], gas, work⟩, openCharge_eq still, setHead_record, record_setRecord_self,
      head_setHead_self, setRecord_setHead, setRecord_setRecord, setHead_setHead]
    obtain ⟨dose, factor⟩ := trim_written s l.slot r h { s.head h with state := .clamped } r
    rw [dose, factor]
  · rw [if_neg gas, if_neg fun all => gas all.2.1]

/-- Settles O25: the capture, the state, and the opening at a gas position, with room for its OPEN or without. -/
theorem clampedEventOpens : Obligations.ClampedEventOpens := by
  intro h l w lag s number joined bound engaged r captured
  have event := headEvent_clamped joined bound engaged lag (r := r) captured
  have work := joined.working h (by rw [bound]; rfl)
  rw [takeReport_event number (by decide), event]
  refine ⟨fun away => ?_, fun low high room => ?_, fun low high full => ?_⟩
  · rw [if_neg fun gas => away (atGas_iff.mp gas)]
    rfl
  · rw [if_pos (atGas_iff.mpr ⟨low, high⟩), queueKind, queueCommand_joins (fun _ => rfl) (by exact room)]
    rfl
  · rw [if_pos (atGas_iff.mpr ⟨low, high⟩)]
    have kept : s.lp.queue.filter (keepsCommand ⟨h, .openGas, 0⟩) = s.lp.queue :=
      State.Bonded.filter_keepsAll _ fun _ => rfl
    have tied := joined.tied.written (h := h) (k := l.slot) (r := { r with
        doseLoaded := some (trimmedDose s r), causes := addCauseIf (trimFactor s r).2 r.causes })
      (c := { s.head h with state := .charging, doseCounter := trimmedDose s r }) (by rw [captured]; rfl) rfl
      (by rw [engaged]; rfl)
    refine queueCommand_trips tied work ?_
    rw [setHead_lp, setRecord_lp, kept]
    exact full

/-- Settles O27: the head leaves its cycle, and its ABORT is queued. -/
theorem faultTakesHeadOut : Obligations.FaultTakesHeadOut := by
  intro h w lag s number joined
  rw [takeReport_fault number]
  have freed {l : Link} (bound : (s.head h).bound = some l) : faultEvent h s = queueKind h .abort
      (((raiseAlert .headFault s).setRecord l.slot { s.record l.slot with
        bound := false, causes := addCause .headFault (s.record l.slot).causes }).setHead h { s.head h with
          state := .faulted, bound := none, trailing := some l, timer := none }) := by
    have named : (raiseAlert .headFault s).namesLoaded l = true := (joined.joinedHead h l bound).1
    have whole := leaveTo_unbind_eq (s := raiseAlert .headFault s) bound named .headFault .faulted
    unfold faultEvent
    dsimp only
    rw [if_pos (by rw [raiseAlert_head, bound]; rfl), whole]
    rfl
  refine ⟨fun free => ?_, fun l bound room => ?_, fun l bound full => ?_⟩
  · unfold faultEvent
    dsimp only
    rw [if_neg (by rw [raiseAlert_head, free]; decide)]
    rfl
  · rw [freed bound, queueKind, queueCommand_room (by exact room)]
    rfl
  · have held := ((joined.bonded.raiseAlert .headFault).inHand h).addBoundCause h .headFault
    have tied := (held.unbindTo (.inr (.inl rfl))).tied
    have named : (raiseAlert .headFault s).namesLoaded l = true := (joined.joinedHead h l bound).1
    rw [leaveTo_unbind_eq (s := raiseAlert .headFault s) bound named .headFault .faulted] at tied
    rw [freed bound]
    exact queueCommand_trips tied (joined.working h (by rw [bound]; rfl)) full

/-! ### Flow reports (R70) -/

theorem takeReport_flow {w : Word} {h : Fin 24} (number : w.toNat = h.val) (n : BitVec 8) (s : State) :
    takeReport s (.flow w n) = headFlow h n.toNat s := by
  show takeFlow w n s = _
  unfold takeFlow
  rw [decodeHead_some number]

theorem headFlow_target {s : State} {h : Fin 24} {l : Link} (target : s.target h = some l) (named : s.namesLoaded l = true)
    {n : Nat} {r : Record} (counted : r = { s.record l.slot with pulses := min ((s.record l.slot).pulses + n) 65535 }) :
    headFlow h n s =
      if (s.head h).state = .charging then
        if (s.head h).doseCounter - n ≤ 0 then
          endCharge h ((s.setRecord l.slot r).setHead h { s.head h with doseCounter := (s.head h).doseCounter - n })
        else (s.setRecord l.slot r).setHead h { s.head h with doseCounter := (s.head h).doseCounter - n }
      else s.setRecord l.slot r := by
  have added : addPulses l n s = s.setRecord l.slot r := by rw [counted]; exact writeLoaded_named named _
  unfold headFlow
  rw [target]
  dsimp only
  rw [added, setRecord_head, head_setHead_self]

/-- Settles O28: the pulses, the countdown and the end of the charge, with room for its CLOSE or without. -/
theorem flowCountsPulses : Obligations.FlowCountsPulses := by
  intro h w n s number legal
  have joined := legal.joined
  rw [takeReport_flow number]
  refine ⟨fun l r goes counted => ?_, fun free stale => ?_⟩
  · obtain ⟨target, named⟩ := joined.target goes
    rw [headFlow_target target named counted]
    have tie : r.tie = (s.record l.slot).tie := by rw [counted]; rfl
    have early (m : Link) (charging : (s.head h).state = .charging) (bound : (s.head h).bound = some m) :
        s.position m.slot < s.stationC := (legal.positions h m bound).1 (.inr charging)
    have settling : leaveTo h .settling ((s.setRecord l.slot r).setHead h { s.head h with
        doseCounter := (s.head h).doseCounter - n.toNat }) = (s.setRecord l.slot r).setHead h { s.head h with
          doseCounter := (s.head h).doseCounter - n.toNat, state := .settling, timer := none } := by
      rw [leaveTo, head_setHead_self, setHead_setHead]
    refine ⟨fun other => if_neg other, fun charging more => ?_, fun charging done room => ?_,
      fun charging done full => ?_⟩
    · rw [if_pos charging, if_neg more.not_ge]
      rfl
    · rw [if_pos charging, if_pos done, endCharge_room (fun m bound => ?_) (by exact room), settling]
      · rfl
      · rw [head_setHead_self] at bound
        exact early m charging bound
    · rw [if_pos charging, if_pos done]
      have work : s.working := joined.working h (by rw [← joined.heads.bound, charging]; rfl)
      have tied := joined.tied.written (h := h) (c := { s.head h with
        doseCounter := (s.head h).doseCounter - n.toNat, state := .settling, timer := none }) tie rfl
        (by rw [charging]; rfl)
      rw [← settling] at tied
      have trip := endCharge_full (s := (s.setRecord l.slot r).setHead h { s.head h with
        doseCounter := (s.head h).doseCounter - n.toNat }) tied work full
      rw [settling] at trip
      exact trip
  · unfold headFlow
    rw [State.Joined.stray free stale]
    rfl

/-! ### The charge limit (R68) -/

theorem chargeDue_iff {s : State} {h : Fin 24} : s.chargeDue h = true ↔
    ∃ d, (s.head h).timer = some d ∧ (s.head h).state = .charging ∧ d.ticks ≤ (s.clock - d.since).toNat := by
  unfold State.chargeDue
  cases timer : (s.head h).timer with
  | none => simp
  | some d => simp [reached_iff]

/-- The lowest-numbered head that is due is the next. -/
theorem nextDue_eq {s : State} {h : Fin 24} (due : s.chargeDue h = true) (lowest : ∀ j, j < h → s.chargeDue j = false) :
    s.nextDue = some h := by
  unfold State.nextDue
  cases found : (List.finRange 24).find? s.chargeDue with
  | none => exact absurd due (List.find?_eq_none.mp found h (List.mem_finRange h))
  | some j =>
    obtain ⟨dueJ, before, after, list, earlier⟩ := List.find?_eq_some_iff_append.mp found
    have order := List.pairwise_lt_finRange 24
    have mem := List.mem_finRange h
    rw [list] at order mem
    rcases List.mem_append.mp mem with first | rest
    · have := earlier h first
      simp [due] at this
    · rcases List.mem_cons.mp rest with same | later
      · rw [same]
      · have below : j < h := (List.pairwise_cons.mp (List.pairwise_append.mp order).2.1).1 h later
        rw [lowest j below] at dueJ
        cases dueJ

/-- Settles O31: the next due head, and the end of its charge with room for its CLOSE or without. -/
theorem chargeLimitExpires : Obligations.ChargeLimitExpires := by
  intro s legal
  have joined := legal.joined
  refine ⟨fun h l d timer due lowest bound u before => ?_, fun early => ?_⟩
  · have charging := legal.timers h (by rw [timer]; rfl)
    have next : s.nextDue = some h := by
      refine nextDue_eq (chargeDue_iff.mpr ⟨d, timer, charging, due⟩) fun j below => ?_
      refine Bool.eq_false_iff.mpr fun dueJ => ?_
      obtain ⟨e, armed, -, reached⟩ := chargeDue_iff.mp dueJ
      have := lowest j below e armed
      omega
    have named := (joined.joinedHead h l bound).1
    have expiry : exec .chargeLimitExpiry s = .next (endCharge h (s.setRecord l.slot { s.record l.slot with
        causes := addCause .overtime (s.record l.slot).causes })) := by
      show Host.Outcome.next (nextChargeExpiry s) = _
      unfold nextChargeExpiry
      rw [next]
      show Host.Outcome.next (chargeExpiry h s) = _
      rw [chargeExpiry, addBoundCause_eq bound named]
    rw [expiry, before]
    refine ⟨fun room => ?_, fun full => ⟨_, rfl, ?_⟩⟩
    · rw [endCharge_room (fun m link => by exact (legal.positions h m link).1 (.inr charging)) (by exact room)]
      rfl
    · have work : s.working := joined.working h (by rw [bound]; rfl)
      have tied := joined.tied.written (h := h) (k := l.slot) (r := { s.record l.slot with
        causes := addCause .overtime (s.record l.slot).causes }) (c := { s.head h with state := .settling, timer := none })
        rfl rfl (by rw [charging]; rfl)
      exact (endCharge_full (s := s.setRecord l.slot _) tied work full).requeue _
  · have none : s.nextDue = none := List.find?_eq_none.mpr fun h _ due => by
      obtain ⟨d, timer, -, reached⟩ := chargeDue_iff.mp due
      have := early h d timer
      omega
    show Host.Outcome.next (nextChargeExpiry s) = _
    unfold nextChargeExpiry
    rw [none]

end Sys2Proof.Machine
end

-- ==== Proofs: the frame loss and HEAD STOP ====
section
/-! PROOF. Two changes made on several heads in turn, and what they make of every head and record: the marks of a damaged frame
(R130) and the stops of HEAD STOP (R54). -/

namespace Sys2Proof.Machine

/-! ### The frame loss (R130) -/

theorem addCause_addCause (c : Cause) (x : CauseSet) : addCause c (addCause c x) = addCause c x := by
  unfold addCause
  rw [BitVec.or_assoc, BitVec.or_self]

/-- Every link names a LOADED record. -/
def State.AllNamed (s : State) : Prop := ∀ h l, (s.head h).bound = some l → s.namesLoaded l = true

/-- Whether a head's link is the tag of a slot, with the head in a state that loses frames. -/
def State.loses (s : State) (h : Fin 24) (k : Fin 64) : Bool :=
  (s.head h).state.losesFrames && (s.head h).bound == some (s.tagOf k)

theorem loses_iff {s : State} {h : Fin 24} {k : Fin 64} :
    s.loses h k = true ↔ (s.head h).state.losesFrames = true ∧ (s.head h).bound = some (s.tagOf k) := by
  rw [State.loses, Bool.and_eq_true, beq_iff_eq]

theorem losesFrames_iff (x : HeadState) : x.losesFrames = true ↔ x = .clamped ∨ x = .charging ∨ x = .crimping := by
  cases x <;> decide

theorem frameLossHead_eq (s : State) (h : Fin 24) : frameLossHead s h = { s with tu.ring := (frameLossHead s h).tu.ring } := by
  unfold frameLossHead addBoundCause addCauseTo writeLoaded
  split
  · split
    · split <;> rfl
    · rfl
  · rfl

theorem record_frameLossHead {s : State} (named : s.AllNamed) (h : Fin 24) (k : Fin 64) :
    (frameLossHead s h).record k = if s.loses h k = true then
      { s.record k with causes := addCause .frameLoss (s.record k).causes } else s.record k := by
  unfold frameLossHead
  simp only [loses_iff]
  by_cases loses : (s.head h).state.losesFrames = true
  · rw [if_pos loses]
    cases bound : (s.head h).bound with
    | none =>
      rw [if_neg (fun both => nomatch both.2)]
      unfold addBoundCause
      rw [bound]
    | some l =>
      have isNamed := named h l bound
      rw [addBoundCause_eq bound isNamed, record_setRecord]
      have tag : l = s.tagOf l.slot := by rw [State.tagOf, (namesLoaded_iff.mp isNamed).2]
      by_cases own : k = l.slot
      · subst own
        rw [if_pos rfl, if_pos ⟨loses, congrArg some tag⟩]
      · rw [if_neg own, if_neg fun both => own (by rw [Option.some.inj both.2]; rfl)]
  · rw [if_neg loses, if_neg fun both => loses both.1]

theorem State.AllNamed.quiet {C : TripCause → Prop} {s t : State} (named : s.AllNamed) (calm : Quiet C s t)
    (heads : ∀ h, (t.head h).bound = (s.head h).bound) : t.AllNamed := fun h l link => by
  rw [namesLoaded_iff, calm.state, (calm.grows l.slot).serial]
  exact namesLoaded_iff.mp (named h l (heads h ▸ link))

/-- After the heads in turn, a record is marked when one of them loses its frame. -/
theorem record_foldl_frameLoss (hs : List (Fin 24)) {s : State} (named : s.AllNamed) (k : Fin 64) :
    (hs.foldl frameLossHead s).record k = if ∃ h ∈ hs, s.loses h k = true then
      { s.record k with causes := addCause .frameLoss (s.record k).causes } else s.record k := by
  induction hs generalizing s with
  | nil => rw [List.foldl_nil, if_neg (by simp)]
  | cons h hs ih =>
    have calm := Quiet.frameLossHead (C := onlyFull) s h
    have heads (j : Fin 24) : (frameLossHead s h).head j = s.head j := by rw [frameLossHead_eq]; rfl
    have tag : (frameLossHead s h).tagOf k = s.tagOf k := by rw [State.tagOf, State.tagOf, (calm.grows k).serial]
    have same (j : Fin 24) : (frameLossHead s h).loses j k = s.loses j k := by rw [State.loses, State.loses, heads, tag]
    rw [List.foldl_cons, ih (named.quiet calm fun j => by rw [heads]), record_frameLossHead named]
    simp only [same, List.mem_cons, exists_eq_or_imp]
    by_cases first : s.loses h k = true
    · rw [if_pos (c := s.loses h k = true ∨ ∃ j ∈ hs, s.loses j k = true) (Or.inl first), if_pos first]
      split
      · dsimp only
        rw [addCause_addCause]
      · rfl
    · rw [if_neg first]
      exact (if_congr (or_iff_right first) rfl rfl).symm

theorem foldl_frameLoss_eq (hs : List (Fin 24)) (s : State) :
    hs.foldl frameLossHead s = { s with tu.ring := (hs.foldl frameLossHead s).tu.ring } := by
  induction hs generalizing s with
  | nil => rfl
  | cons h hs ih =>
    rw [List.foldl_cons, ih, frameLossHead_eq]

/-- Settles O8: the alert, and the marks through the heads' links. -/
theorem damagedFrameMarksLoss : Obligations.DamagedFrameMarksLoss := by
  intro ws s read awake joined
  have arrival : exec (.damagedFrame ws) s = .next (takeDamaged ws (restartGap s)) := by
    show Host.Outcome.next (frameArrival ws s) = _
    rw [frameArrival_awake awake, awake_damaged read]
  have named : (raiseAlert .frameDamaged (restartGap s)).AllNamed := fun h l bound => (joined.joinedHead h l bound).1
  have whole : takeDamaged ws (restartGap s) = { s with
      lp := s.forwarded ws, nc.alerts := addAlert .frameDamaged s.nc.alerts
      tu.ring := (takeDamaged ws (restartGap s)).tu.ring } := by
    have marked := foldl_frameLoss_eq (List.finRange 24) (raiseAlert .frameDamaged (restartGap s))
    rw [takeDamaged, frameLoss]
    generalize (List.finRange 24).foldl frameLossHead (raiseAlert .frameDamaged (restartGap s)) = u at marked
    exact congrArg (putTransit (.unchanged ws)) marked
  have record (k : Fin 64) : (takeDamaged ws (restartGap s)).record k =
      (frameLoss (raiseAlert .frameDamaged (restartGap s))).record k := by
    rw [takeDamaged]
    generalize frameLoss (raiseAlert .frameDamaged (restartGap s)) = u
    rfl
  refine ⟨_, arrival, whole, fun h l bound state => ?_, fun k away => ?_⟩
  · have tag : l = s.tagOf l.slot := by
      rw [State.tagOf, (namesLoaded_iff.mp (joined.joinedHead h l bound).1).2]
    rw [record, frameLoss, record_foldl_frameLoss _ named, if_pos]
    · rfl
    · exact ⟨h, List.mem_finRange h, loses_iff.mpr ⟨(losesFrames_iff _).mpr state, bound.trans (congrArg some tag)⟩⟩
  · rw [record, frameLoss, record_foldl_frameLoss _ named, if_neg]
    · rfl
    · rintro ⟨h, -, loses⟩
      obtain ⟨state, bound⟩ := loses_iff.mp loses
      exact away h bound ((losesFrames_iff _).mp state)

/-! ### HEAD STOP (R51, R54) -/

/-- A head after HEAD STOP (R54). -/
def HeadContext.stop (c : HeadContext) : HeadContext :=
  if c.state.isBound = true then
    { c with enabled := false, state := .aborting, bound := none, trailing := c.bound, timer := none }
  else c.disable

/-- The named heads that a HEAD STOP unbinds. -/
def State.stopped (s : State) (hs : List (Fin 24)) : List (Fin 24) := hs.filter (fun h => (s.head h).state.isBound)

theorem mem_stopped {s : State} {hs : List (Fin 24)} {h : Fin 24} :
    h ∈ s.stopped hs ↔ h ∈ hs ∧ (s.head h).state.isBound = true := List.mem_filter

theorem disableHead_eq (s : State) (h : Fin 24) : disableHead s h = s.setHead h (s.head h).disable := rfl

theorem disable_isBound {c : HeadContext} (bound : c.state.isBound = true) :
    c.disable = { c with enabled := false } := by
  have busy : c.state ≠ .idle := fun e => by rw [e] at bound; cases bound
  rw [HeadContext.disable, if_neg busy]

theorem stopHead_free {s : State} {h : Fin 24} (free : ¬ (s.head h).state.isBound = true) :
    stopHead s h = s.setHead h (s.head h).disable := by
  have still : ¬ (s.head h).disable.state.isBound = true := by
    unfold HeadContext.disable
    dsimp only
    split
    · decide
    · exact free
  unfold stopHead
  dsimp only
  rw [disableHead_eq, head_setHead_self, if_neg still]

theorem stopHead_unbinds {s : State} {h : Fin 24} (state : (s.head h).state.isBound = true) :
    stopHead s h = queueKind h .abort (leaveTo h .aborting (unbind h (addBoundCause h .headStopped (disableHead s h)))) := by
  have off := disable_isBound state
  unfold stopHead
  dsimp only
  rw [disableHead_eq, head_setHead_self, off, if_pos state, abortHead_eq]
  rfl

/-- A bound head that HEAD STOP has unbound, before its ABORT is queued. -/
theorem stopUnbind_eq {s : State} {h : Fin 24} {l : Link} (bound : (s.head h).bound = some l)
    (named : s.namesLoaded l = true) (state : (s.head h).state.isBound = true) :
    leaveTo h .aborting (unbind h (addBoundCause h .headStopped (disableHead s h))) =
      (s.setRecord l.slot { s.record l.slot with
        bound := false, causes := addCause .headStopped (s.record l.slot).causes }).setHead h (s.head h).stop := by
  have off := disable_isBound state
  have after : (s.head h).stop = { s.head h with
      enabled := false, state := .aborting, bound := none, trailing := some l, timer := none } := by
    rw [HeadContext.stop, if_pos state, bound]
  rw [disableHead_eq, off,
    leaveTo_unbind_eq (s := s.setHead h { s.head h with enabled := false }) (by rw [head_setHead_self]; exact bound) named,
    head_setHead_self, after, setRecord_setHead, setHead_setHead]
  rfl

/-- What the stops of several heads leave. -/
structure Stops (hs : List (Fin 24)) (s t : State) : Prop where
  rest : t = { s with lp.queue := t.lp.queue, hu.heads := t.hu.heads, tu.ring := t.tu.ring }
  queue : t.lp.queue = s.lp.queue.filter (fun c => c.head ∉ s.stopped hs) ++ (s.stopped hs).map (fun h => ⟨h, .abort, 0⟩)
  head : ∀ h, t.head h = if h ∈ hs then (s.head h).stop else s.head h
  record : ∀ k, t.record k = if ∃ h ∈ s.stopped hs, (s.head h).bound = some (s.tagOf k) then { s.record k with
    bound := false, causes := addCause .headStopped (s.record k).causes } else s.record k

/-- One head that is stopped. -/
theorem stopHead_stops {s : State} (b : s.Bonded False 0 64 none) {h : Fin 24}
    (room : s.lp.queue.length + (s.stopped [h]).length ≤ 48) : Stops [h] s (stopHead s h) := by
  by_cases state : (s.head h).state.isBound = true
  · have alone : s.stopped [h] = [h] := by simp [State.stopped, state]
    obtain ⟨l, bound⟩ := b.tied.link state
    have link := b.links h l bound
    have removed := List.length_filter_le (keepsCommand ⟨h, .abort, 0⟩) s.lp.queue
    rw [alone, List.length_singleton] at room
    rw [stopHead_unbinds state, stopUnbind_eq bound link.named state, queueKind, queueCommand_room (by
      rw [setHead_lp, setRecord_lp]; omega)]
    refine ⟨rfl, ?_, fun j => ?_, fun k => ?_⟩
    · rw [alone]
      show s.lp.queue.filter (keepsCommand ⟨h, .abort, 0⟩) ++ [⟨h, .abort, 0⟩] = _
      rw [List.map_singleton]
      congr 1
      refine List.filter_congr fun c _ => ?_
      rw [keepsCommand_abort]
      simp [bne]
      rfl
    · show (State.setHead _ h _).head j = _
      rw [head_setHead]
      simp only [List.mem_singleton]
      split
      next own => rw [own]
      next => rfl
    · show (s.setRecord l.slot _).record k = _
      rw [record_setRecord, alone]
      have tag := link.tag
      by_cases own : k = l.slot
      · subst own
        rw [if_pos rfl, if_pos ⟨h, List.mem_singleton.mpr rfl, bound.trans (congrArg some tag)⟩]
      · rw [if_neg own, if_neg]
        rintro ⟨j, only, other⟩
        rw [List.mem_singleton.mp only, bound] at other
        exact own (by rw [Option.some.inj other]; rfl)
  · have none : s.stopped [h] = [] := by simp [State.stopped, state]
    rw [stopHead_free state]
    refine ⟨rfl, ?_, fun j => ?_, fun k => ?_⟩
    · rw [none]
      simp
    · rw [head_setHead]
      simp only [List.mem_singleton]
      split
      next own => rw [own, HeadContext.stop, if_neg state]
      next => rfl
    · rw [none, if_neg (by simp)]
      rfl

theorem stopped_cons (s : State) (h : Fin 24) (hs : List (Fin 24)) :
    s.stopped (h :: hs) = s.stopped [h] ++ s.stopped hs := List.filter_append (l₁ := [h]) hs

theorem mem_stopped_single {s : State} {h j : Fin 24} : j ∈ s.stopped [h] ↔ j = h ∧ (s.head j).state.isBound = true := by
  rw [mem_stopped, List.mem_singleton]

namespace Stops

variable {h : Fin 24} {hs : List (Fin 24)} {s u t : State}

theorem tagOf (one : Stops hs s u) (k : Fin 64) : u.tagOf k = s.tagOf k := by
  rw [State.tagOf, State.tagOf, one.record]
  split <;> rfl

theorem away (one : Stops [h] s u) {j : Fin 24} (other : j ≠ h) : u.head j = s.head j := by
  rw [one.head, if_neg (by rwa [List.mem_singleton])]

theorem stopped_away (one : Stops [h] s u) (away : h ∉ hs) : u.stopped hs = s.stopped hs :=
  List.filter_congr fun j mem => by rw [one.away fun e => away (e ▸ mem)]

/-- One stop, and then those of other heads. -/
theorem cons (away : h ∉ hs) (one : Stops [h] s u) (rest : Stops hs u t) : Stops (h :: hs) s t where
  rest := by
    rw [rest.rest, one.rest]
  queue := by
    rw [rest.queue, one.queue, one.stopped_away away, stopped_cons s h hs, List.filter_append, List.filter_filter, List.map_append,
      List.append_assoc]
    congr 1
    · refine List.filter_congr fun c _ => ?_
      simp only [List.mem_append, ← Bool.decide_and]
      exact decide_eq_decide.mpr (by rw [not_or, and_comm])
    · congr 1
      refine List.filter_eq_self.mpr fun c mem => ?_
      obtain ⟨j, isOne, rfl⟩ := List.mem_map.mp mem
      rw [decide_eq_true_iff, (mem_stopped_single.mp isOne).1]
      exact fun x => away (mem_stopped.mp x).1
  head j := by
    rw [rest.head, one.head]
    by_cases own : j = h
    · subst own
      rw [if_neg away, if_pos (List.mem_singleton.mpr rfl), if_pos (List.mem_cons_self ..)]
    · rw [if_neg (c := j ∈ [h]) (by rwa [List.mem_singleton])]
      exact if_congr (by rw [List.mem_cons, or_iff_right own]) rfl rfl
  record k := by
    have later : (∃ j ∈ u.stopped hs, (u.head j).bound = some (u.tagOf k)) ↔
        ∃ j ∈ s.stopped hs, (s.head j).bound = some (s.tagOf k) := by
      rw [one.stopped_away away, one.tagOf]
      refine exists_congr fun j => and_congr_right fun mem => ?_
      rw [one.away fun e => away (e ▸ (mem_stopped.mp mem).1)]
    have either : (∃ j ∈ s.stopped (h :: hs), (s.head j).bound = some (s.tagOf k)) ↔
        (∃ j ∈ s.stopped [h], (s.head j).bound = some (s.tagOf k)) ∨
          ∃ j ∈ s.stopped hs, (s.head j).bound = some (s.tagOf k) := by
      rw [stopped_cons s h hs]
      simp only [List.mem_append, or_and_right, exists_or]
    rw [rest.record, if_congr later rfl rfl, if_congr either rfl rfl, one.record]
    by_cases first : ∃ j ∈ s.stopped [h], (s.head j).bound = some (s.tagOf k)
    · rw [if_pos first, if_pos (Or.inl first)]
      split
      · dsimp only
        rw [addCause_addCause]
      · rfl
    · rw [if_neg first]
      exact (if_congr (or_iff_right first) rfl rfl).symm

theorem nil (s : State) : Stops [] s s where
  rest := rfl
  queue := by simp [State.stopped]
  head h := (if_neg List.not_mem_nil).symm
  record k := (if_neg fun ⟨_, mem, _⟩ => nomatch mem).symm

end Stops

/-- The stops of different heads, with room for their ABORTs. -/
theorem stopHeads_stops {hs : List (Fin 24)} (different : hs.Nodup) {s : State} (b : s.Bonded False 0 64 none)
    (room : s.lp.queue.length + (s.stopped hs).length ≤ 48) :
    (stopHeads hs s).1 = (s.stopped hs).length ∧ Stops hs s (stopHeads hs s).2 := by
  induction hs generalizing s with
  | nil => exact ⟨rfl, .nil s⟩
  | cons h hs ih =>
    obtain ⟨away, different⟩ := List.nodup_cons.mp different
    rw [stopped_cons s h hs, List.length_append] at room
    have one := stopHead_stops b (h := h) (by omega)
    have still := one.stopped_away away
    have fewer : (stopHead s h).lp.queue.length ≤ s.lp.queue.length + (s.stopped [h]).length := by
      rw [one.queue, List.length_append, List.length_map]
      exact Nat.add_le_add_right (List.length_filter_le ..) _
    obtain ⟨count, rest⟩ := ih different (b.stopHead h) (by rw [still]; omega)
    refine ⟨?_, one.cons away rest⟩
    show (if (s.head h).state.isBound = true then 1 else 0) + (stopHeads hs (stopHead s h)).1 = _
    rw [count, still, stopped_cons s h hs, List.length_append]
    congr 1
    by_cases state : (s.head h).state.isBound = true <;> simp [State.stopped, state]

theorem selectHeads_nodup {sel v1 v2 : Word} {hs : List (Fin 24)} (named : selectHeads sel v1 v2 = some hs) : hs.Nodup := by
  have filtered (p : Fin 24 → Bool) : ((List.finRange 24).filter p).Nodup := (List.nodup_finRange 24).filter p
  unfold selectHeads at named
  split at named
  · obtain ⟨h, -, rfl⟩ := Option.map_eq_some_iff.mp named
    exact List.nodup_singleton h
  · split at named
    · exact Option.some.inj named ▸ filtered _
    · cases named
  · split at named
    · exact Option.some.inj named ▸ filtered _
    · cases named
  · cases named

theorem heads_eq {s : State} {f : Fin 24 → HeadContext} (each : ∀ h, s.head h = f h) : s.hu.heads = Vector.ofFn f := by
  refine Vector.ext fun i lt => ?_
  rw [Vector.getElem_ofFn]
  exact each ⟨i, lt⟩

theorem stop_cases {s : State} {hs : List (Fin 24)} (h : Fin 24) :
    (if h ∈ hs then (s.head h).stop else s.head h) =
      if h ∈ s.stopped hs then { s.head h with
        enabled := false, state := .aborting, bound := none, trailing := (s.head h).bound, timer := none }
      else if h ∈ hs then { s.head h with
        enabled := false, state := if (s.head h).state = .idle then .disabled else (s.head h).state }
      else s.head h := by
  by_cases mem : h ∈ hs
  · rw [if_pos mem, if_pos mem, HeadContext.stop]
    exact if_congr (by rw [mem_stopped, and_iff_right mem]) rfl rfl
  · rw [if_neg mem, if_neg mem, if_neg fun x => mem (mem_stopped.mp x).1]

theorem takeHeadStop_named {sel v1 v2 : Word} {hs : List (Fin 24)} (named : selectHeads sel v1 v2 = some hs) (s : State) :
    takeHeadStop sel v1 v2 s = (headAnswer hs.length (stopHeads hs s).1, (stopHeads hs s).2) := by
  simp only [takeHeadStop, named]

/-- A bound head that is stopped with the command queue full. -/
theorem stopHead_trips {s : State} (b : s.Bonded False 0 64 none) {h : Fin 24} {l : Link} (bound : (s.head h).bound = some l)
    (full : 48 ≤ (s.lp.queue.filter (fun c => c.head != h)).length) :
    State.TripEntryTo .queueFull ((s.setRecord l.slot { s.record l.slot with
      bound := false, causes := addCause .headStopped (s.record l.slot).causes }).setHead h (s.head h).stop) (stopHead s h) := by
  have link := b.links h l bound
  have state : (s.head h).state.isBound = true := by rw [b.legal.bound, bound]; rfl
  have tied := ((((b.disableHead h).inHand h).addBoundCause h .headStopped).unbindTo (.inl rfl)).tied
  rw [stopUnbind_eq bound link.named state] at tied
  rw [stopHead_unbinds state, stopUnbind_eq bound link.named state]
  refine queueCommand_trips tied (b.working_of state) ?_
  rw [setHead_lp, setRecord_lp]
  refine full.trans_eq (congrArg List.length (List.filter_congr fun c _ => ?_))
  rw [keepsCommand_abort]

/-- Settles O46: the stops in order with room for their ABORTs, and the one that finds none. -/
theorem headStopAborts : Obligations.HeadStopAborts := by
  refine ⟨fun tag sel v1 v2 hs stopped s ready joined named isStopped room => ?_,
    fun tag sel v1 v2 h l s ready joined named bound full => ?_⟩
  · obtain ⟨count, stops⟩ := stopHeads_stops (selectHeads_nodup named) (s := restartGap s) (joined.bonded.same rfl (fun _ => rfl) rfl rfl rfl rfl) (by
      rw [isStopped] at room
      exact room)
    rw [(exec_heads tag sel v1 v2 s).2.2, requestArrival_leaves ready (requestFrame_heads s tag sel v1 v2).2.2
      (takeHeadStop_named named (restartGap s)), count]
    have same : (restartGap s).stopped hs = stopped := isStopped.symm
    have heads := heads_eq fun h => (stops.head h).trans (stop_cases h)
    have queue := stops.queue
    rw [same] at heads queue
    refine ⟨_, rfl, ?_, fun k => ?_⟩
    · rw [stops.rest, same, heads, queue]
      rfl
    · have record := stops.record k
      rw [same] at record
      exact record
  · have trip := stopHead_trips (s := restartGap s) (joined.bonded.same rfl (fun _ => rfl) rfl rfl rfl rfl) bound full
    rw [(exec_heads tag sel v1 v2 s).2.2, requestArrival_leaves ready (requestFrame_heads s tag sel v1 v2).2.2
      (takeHeadStop_named named (restartGap s))]
    have state : (s.head h).state.isBound = true := by rw [joined.heads.bound, bound]; rfl
    have one : stopHeads [h] (restartGap s) = (1, stopHead (restartGap s) h) := by
      simp only [stopHeads]
      rw [if_pos (by exact state)]
    have transit : (stopHead (restartGap s) h).lp.transit = s.lp.transit := by
      obtain ⟨-, -, -, -, transit, -⟩ := fixed_parts (stopHead_fixed (restartGap s) h)
      exact transit
    have answer : headAnswer [h].length 1 = { status := .done, result0 := 1, result1 := 1 } := rfl
    have after : (s.head h).stop = { s.head h with
        enabled := false, state := .aborting, bound := none, trailing := some l, timer := none } := by
      rw [HeadContext.stop, if_pos state, bound]
    have base : (restartGap s).head h = s.head h := rfl
    rw [one, answer, putTransit, transit]
    rw [base, after] at trip
    exact ⟨_, rfl, trip.relinked _⟩

end Sys2Proof.Machine
end

-- ==== Proofs: forward arrivals, one by one ====
section
/-! PROOF. What one arrival at the turret may touch when the Command Queue has room for its commands (R39, R136): one head, one
record, and the commands of that head. The arrivals of a FORWARD advance, position by position, and what those before and after
one position leave of its record and its head. -/

namespace Sys2Proof.Machine

/-! ### One head and one record -/

/-- State t follows s by operations on one head and one record that queue at most n commands and find room for them; an ENGAGE
is among them only if e. -/
structure Footprint (e : Prop) (h : Fin 24) (k : Fin 64) (n : Nat) (s t : State) : Prop where
  rest : t = { s with lp.queue := t.lp.queue, hu.heads := t.hu.heads, tu.ring := t.tu.ring }
  head : ∀ j, j ≠ h → t.head j = s.head j
  record : ∀ j, j ≠ k → t.record j = s.record j
  queued : ∀ j, j ≠ h → t.queuedFor j = s.queuedFor j
  engage : ∀ c ∈ t.lp.queue, c.kind = .engage → c ∈ s.lp.queue ∨ e
  length : t.lp.queue.length ≤ s.lp.queue.length + n

namespace Footprint
variable {e : Prop} {h : Fin 24} {k : Fin 64} {n m : Nat} {s t u : State}

theorem refl (s : State) : Footprint e h k 0 s s :=
  ⟨rfl, fun _ _ => rfl, fun _ _ => rfl, fun _ _ => rfl, fun _ mem _ => .inl mem, Nat.le_refl _⟩

theorem trans (x : Footprint e h k n s t) (y : Footprint e h k m t u) : Footprint e h k (n + m) s u where
  rest := by rw [y.rest, x.rest]
  head j away := (y.head j away).trans (x.head j away)
  record j away := (y.record j away).trans (x.record j away)
  queued j away := (y.queued j away).trans (x.queued j away)
  engage c mem kind := (y.engage c mem kind).elim (fun mem => x.engage c mem kind) .inr
  length := by
    have := x.length
    have := y.length
    omega

theorem le (x : Footprint e h k n s t) (more : n ≤ m) : Footprint e h k m s t :=
  { x with length := x.length.trans (Nat.add_le_add_left more _) }

theorem nc (x : Footprint e h k n s t) : t.nc = s.nc := by rw [x.rest]
theorem stations (x : Footprint e h k n s t) : t.tu.stations = s.tu.stations := by rw [x.rest]
theorem origin (x : Footprint e h k n s t) : t.tu.origin = s.tu.origin := by rw [x.rest]

/-! ### The operations -/

theorem setHead (c : HeadContext) (s : State) : Footprint e h k 0 s (s.setHead h c) where
  rest := rfl
  head _ away := head_setHead_ne away s c
  record _ _ := rfl
  queued _ _ := rfl
  engage _ mem _ := .inl mem
  length := Nat.le_refl _

theorem setRecord (r : Record) (s : State) : Footprint e h k 0 s (s.setRecord k r) where
  rest := rfl
  head _ _ := rfl
  record _ away := record_setRecord_ne away s r
  queued _ _ := rfl
  engage _ mem _ := .inl mem
  length := Nat.le_refl _

theorem leaveTo (st : HeadState) (s : State) : Footprint e h k 0 s (leaveTo h st s) := setHead _ s

theorem writeLoaded {l : Link} (slot : l.slot = k) (f : Record → Record) (s : State) :
    Footprint e h k 0 s (writeLoaded l f s) := by
  unfold Machine.writeLoaded
  split
  · rw [slot]; exact setRecord _ s
  · exact refl s

theorem addCauseTo {l : Link} (slot : l.slot = k) (c : Cause) (s : State) : Footprint e h k 0 s (addCauseTo l c s) :=
  writeLoaded slot _ s

theorem unbind {s : State} (slot : ∀ l, (s.head h).bound = some l → l.slot = k) : Footprint e h k 0 s (unbind h s) := by
  unfold Machine.unbind
  split
  · exact refl s
  next l bound => exact (setHead _ s).trans (writeLoaded (slot l bound) _ _)

theorem addBoundCause {s : State} (slot : ∀ l, (s.head h).bound = some l → l.slot = k) (c : Cause) :
    Footprint e h k 0 s (addBoundCause h c s) := by
  unfold Machine.addBoundCause
  split
  next l bound => exact addCauseTo (slot l bound) c s
  · exact refl s

/-- A command of the head joins the queue last. -/
theorem command (x : Footprint e h k n s t) {c : HeadCommand} (own : c.head = h) (kind : c.kind = .engage → e)
    (room : s.lp.queue.length + n < 48) : Footprint e h k (n + 1) s (queueCommand c t) := by
  have shorter := List.length_filter_le (keepsCommand c) t.lp.queue
  have before := x.length
  rw [queueCommand_room (by omega)]
  refine x.trans (m := 1) ⟨rfl, fun _ _ => rfl, fun _ _ => rfl,
    fun j away => State.Bonded.queuedFor_kept c t.lp.queue (own ▸ away), fun d mem engage => ?_, ?_⟩
  · rcases List.mem_append.mp mem with old | new
    · exact .inl (List.mem_filter.mp old).1
    · rw [List.mem_singleton.mp new] at engage
      exact .inr (kind engage)
  · show (t.lp.queue.filter (keepsCommand c) ++ [c]).length ≤ _
    rw [List.length_append, List.length_singleton]
    omega

/-- A command that is no ENGAGE. -/
theorem kind (x : Footprint e h k n s t) (q : CommandKind) (other : q ≠ .engage) (room : s.lp.queue.length + n < 48) :
    Footprint e h k (n + 1) s (queueKind h q t) := x.command rfl (fun same => absurd same other) room

end Footprint

/-! ### Arrivals of a bound record -/

section
variable {h : Fin 24} {k : Fin 64} {s : State}

theorem slot_of_tag {l : Link} (bound : (s.head h).bound = some (s.tagOf k)) (link : (s.head h).bound = some l) :
    l.slot = k := by
  rw [bound] at link
  cases link
  rfl

theorem abortHead_footprint (slot : ∀ l, (s.head h).bound = some l → l.slot = k) (c : Cause)
    (room : s.lp.queue.length < 48) : Footprint False h k 1 s (abortHead h c s) := by
  have caused : Footprint False h k 0 s (addBoundCause h c s) := .addBoundCause slot c
  have freed := caused.trans (.unbind fun l link => slot l (by rwa [addBoundCause_head] at link))
  exact (freed.trans (.leaveTo .aborting _)).kind .abort (by decide) room

theorem openIfReady_footprint (slot : ∀ l, (s.head h).bound = some l → l.slot = k) (room : s.lp.queue.length < 48) :
    Footprint False h k 1 s (openIfReady h s) := by
  unfold openIfReady
  split
  next l bound =>
    split
    · have dosed (f : Record → Record) : Footprint False h k 0 s (writeLoaded l f s) := .writeLoaded (slot l bound) f s
      exact ((dosed _).trans (.setHead _ _)).kind .openGas (by decide) room
    · exact (Footprint.refl s).le (Nat.zero_le _)
  next => exact (Footprint.refl s).le (Nat.zero_le _)

theorem sendCrimp_footprint {n : Nat} {t : State} (x : Footprint False h k n s t) (room : s.lp.queue.length + n < 48) :
    Footprint False h k (n + 1) s (sendCrimp h t) := by
  unfold sendCrimp
  split
  · split
    · exact (x.trans (.leaveTo _ _)).command rfl nofun room
    · exact x.le (Nat.le_succ _)
  · exact x.le (Nat.le_succ _)

theorem clampWaitArrival_footprint (slot : ∀ l, (s.head h).bound = some l → l.slot = k) (r : Record) (p : Nat)
    (room : s.lp.queue.length < 48) : Footprint False h k 1 s (clampWaitArrival h r p s) := by
  unfold clampWaitArrival
  dsimp only
  split
  · exact (Footprint.setHead _ s).trans (abortHead_footprint (by rw [head_setHead_self]; exact slot) .noClamp room)
  · exact (Footprint.setHead _ s).le (Nat.zero_le _)

theorem releaseArrival_footprint (slot : ∀ l, (s.head h).bound = some l → l.slot = k) (room : s.lp.queue.length < 48) :
    Footprint False h k 1 s (releaseArrival h k s) := by
  have written (f : Record → Record) : Footprint False h k 0 s (writeLoaded (s.tagOf k) f s) :=
    .writeLoaded (l := s.tagOf k) rfl f s
  have freed (f : Record → Record) := (written f).trans (.unbind fun l link => slot l (by rwa [writeLoaded_head] at link))
  exact ((freed _).trans (.leaveTo _ _)).kind .release (by decide) room

/-- The commands that the arrivals at a position queue at most. -/
def State.arrivalCommands (s : State) (p : Nat) : Nat := if p = s.stationC then 2 else 1

theorem turretArrival_footprint (slot : ∀ l, (s.head h).bound = some l → l.slot = k) (p : Nat)
    (room : s.lp.queue.length + s.arrivalCommands p ≤ 48) :
    Footprint False h k (s.arrivalCommands p) s (turretArrival h k p s) := by
  have some_one : 1 ≤ s.arrivalCommands p := by unfold State.arrivalCommands; split <;> omega
  have still : Footprint False h k (s.arrivalCommands p) s s := (Footprint.refl s).le (Nat.zero_le _)
  unfold turretArrival
  split
  · exact (releaseArrival_footprint slot (by omega)).le some_one
  · cases (s.head h).state with
    | engaged => exact (clampWaitArrival_footprint slot _ p (by omega)).le some_one
    | clamped => exact (openIfReady_footprint slot (by omega)).le some_one
    | charging =>
      dsimp only
      split
      next atC =>
        have two : s.arrivalCommands p = 2 := if_pos atC
        rw [two] at room ⊢
        have caused : Footprint False h k 0 s _ := .addCauseTo (l := s.tagOf k) rfl .shortGas s
        exact sendCrimp_footprint ((caused.trans (.leaveTo _ _)).kind .closeGas (by decide) (by omega)) (by omega)
      next => exact still
    | settling => exact (sendCrimp_footprint (Footprint.refl s) (by omega)).le some_one
    | _ => exact still

end

/-! ### The engagement attempt (R40, R41) -/

section
variable {φ : Fin 24} {k : Fin 64} {s : State}

theorem engagementArrival_passes (passes : (s.record k).engaged = true ∨ (s.record k).causes ≠ 0) :
    engagementArrival φ k s = s := if_pos passes

/-- The record after an attempt with a head. -/
def Record.attempted (r : Record) (φ : Fin 24) : Record := { r with head := some φ, engaged := true }

theorem tagOf_attempted : (s.setRecord k ((s.record k).attempted φ)).tagOf k = s.tagOf k := by
  rw [State.tagOf, State.tagOf, record_setRecord_self]
  rfl

theorem engagementArrival_fresh (fresh : (s.record k).engaged = false) (clean : (s.record k).causes = 0) :
    engagementArrival φ k s =
      if s.working then
        if (s.head φ).state = .idle ∧ (s.head φ).enabled = true then
          queueKind φ .engage (bindHead φ k (s.setRecord k ((s.record k).attempted φ)))
        else addCauseTo ((s.setRecord k ((s.record k).attempted φ)).tagOf k) .noHead
          (s.setRecord k ((s.record k).attempted φ))
      else s.setRecord k ((s.record k).attempted φ) := by
  unfold engagementArrival
  dsimp only
  rw [if_neg (by simp [fresh, clean])]
  rfl

theorem engagementArrival_resting (rest : ¬ s.working) (fresh : (s.record k).engaged = false)
    (clean : (s.record k).causes = 0) : engagementArrival φ k s = s.setRecord k ((s.record k).attempted φ) := by
  rw [engagementArrival_fresh fresh clean, if_neg rest]

/-- The attempt at a head that is not IDLE. -/
theorem engagementArrival_noHead (work : s.working) (loaded : (s.record k).state = .loaded)
    (fresh : (s.record k).engaged = false) (clean : (s.record k).causes = 0) (busy : (s.head φ).state ≠ .idle) :
    engagementArrival φ k s = s.setRecord k { (s.record k).attempted φ with causes := addCause .noHead 0 } := by
  rw [engagementArrival_fresh fresh clean, if_pos work, if_neg (fun both => busy both.1), tagOf_attempted]
  have named : (s.setRecord k ((s.record k).attempted φ)).namesLoaded (s.tagOf k) = true := by
    rw [namesLoaded_iff]
    show ((s.setRecord k _).record k).state = _ ∧ ((s.setRecord k _).record k).serial = _
    rw [record_setRecord_self]
    exact ⟨loaded, rfl⟩
  have slot : (s.tagOf k).slot = k := rfl
  have none : ((s.record k).attempted φ).causes = 0 := clean
  unfold addCauseTo
  rw [writeLoaded_named named, slot, record_setRecord_self, setRecord_setRecord, none]

/-- The attempt at an IDLE head binds it, and its ENGAGE joins the queue. -/
theorem engagementArrival_binds (work : s.working) (fresh : (s.record k).engaged = false)
    (clean : (s.record k).causes = 0) (idle : (s.head φ).state = .idle) (enabled : (s.head φ).enabled = true)
    (room : s.lp.queue.length < 48) :
    engagementArrival φ k s = { (s.setRecord k { (s.record k).attempted φ with bound := true }).setHead φ { s.head φ with
      state := .engaged, bound := some (s.tagOf k), trailing := none, clampWait := 0 } with
        lp.queue := s.lp.queue ++ [⟨φ, .engage, 0⟩] } := by
  have bound : bindHead φ k (s.setRecord k ((s.record k).attempted φ)) =
      (s.setRecord k { (s.record k).attempted φ with bound := true }).setHead φ { s.head φ with
        state := .engaged, bound := some (s.tagOf k), trailing := none, clampWait := 0 } := by
    unfold bindHead
    dsimp only
    rw [tagOf_attempted, setRecord_head, setHead_record, record_setRecord_self, setRecord_setHead, setRecord_setRecord]
    rfl
  rw [engagementArrival_fresh fresh clean, if_pos work, if_pos ⟨idle, enabled⟩, bound, queueKind,
    queueCommand_joins (fun _ => rfl) (by exact room)]
  rfl

end

/-! ### The arrival at one position -/

/-- The arrival at a position, with room for its commands: nothing, the move of the head bound there, a binding at E or an
attempt there without one. -/
inductive ArrivalAt (φ : Fin 24) (n : Nat) (s : State) : Prop
  | still (same : forwardArrival φ s n = s)
  | bound (h : Fin 24) (away : n ≠ s.stationE) (link : (s.head h).bound = some (s.tagOf (s.slotAt n)))
      (moves : Footprint False h (s.slotAt n) (s.arrivalCommands n) s (forwardArrival φ s n))
  | binds (atE : n = s.stationE) (idle : (s.head φ).state = .idle) (fresh : (s.record (s.slotAt n)).engaged = false)
      (clean : (s.record (s.slotAt n)).causes = 0) (work : s.working)
      (moves : Footprint True φ (s.slotAt n) 1 s (forwardArrival φ s n))
  | attempts (atE : n = s.stationE) (r : Record) (marks : forwardArrival φ s n = s.setRecord (s.slotAt n) r)

section
variable {full : Prop} {n : Nat} {φ : Fin 24} {s : State}

theorem forwardArrival_other (other : (s.record (s.slotAt n)).state ≠ .loaded) : forwardArrival φ s n = s := if_neg other

theorem forwardArrival_atE (loaded : (s.record (s.slotAt n)).state = .loaded) (atE : n = s.stationE) :
    forwardArrival φ s n = engagementArrival φ (s.slotAt n) s := by
  unfold forwardArrival
  dsimp only
  rw [if_pos loaded, if_pos atE]

theorem forwardArrival_unbound (away : n ≠ s.stationE) (unbound : (s.record (s.slotAt n)).bound = false) :
    forwardArrival φ s n = s := by
  unfold forwardArrival
  dsimp only
  rw [if_neg away, Record.boundHead, unbound]
  split <;> rfl

theorem forwardArrival_bound (loaded : (s.record (s.slotAt n)).state = .loaded) (away : n ≠ s.stationE) {h : Fin 24}
    (bound : (s.record (s.slotAt n)).boundHead = some h) :
    forwardArrival φ s n = turretArrival h (s.slotAt n) n s := by
  unfold forwardArrival
  dsimp only
  rw [if_pos loaded, if_neg away, bound]

theorem State.Bonded.arrivalAt {d : Nat} (b : s.Bonded full d n none)
    (room : s.lp.queue.length + s.arrivalCommands n ≤ 48) (φ : Fin 24) : ArrivalAt φ n s := by
  have some_one : 1 ≤ s.arrivalCommands n := by unfold State.arrivalCommands; split <;> omega
  by_cases loaded : (s.record (s.slotAt n)).state = .loaded
  · by_cases atE : n = s.stationE
    · have here := forwardArrival_atE (φ := φ) loaded atE
      by_cases passes : (s.record (s.slotAt n)).engaged = true ∨ (s.record (s.slotAt n)).causes ≠ 0
      · exact .still (here.trans (engagementArrival_passes passes))
      · have fresh : (s.record (s.slotAt n)).engaged = false := by simpa using fun e => passes (.inl e)
        have clean : (s.record (s.slotAt n)).causes = 0 := by simpa using fun e => passes (.inr e)
        by_cases work : s.working
        · by_cases idle : (s.head φ).state = .idle
          · refine .binds atE idle fresh clean work ?_
            rw [here, engagementArrival_fresh fresh clean, if_pos work, if_pos ⟨idle, b.legal.idle φ idle⟩]
            have attempted : Footprint True φ (s.slotAt n) 0 s _ := .setRecord ((s.record (s.slotAt n)).attempted φ) s
            exact ((attempted.trans (.setHead _ _)).trans (.setRecord _ _)).command rfl (fun _ => trivial) (by omega)
          · exact .attempts atE _ (here.trans (engagementArrival_noHead work loaded fresh clean idle))
        · exact .attempts atE _ (here.trans (engagementArrival_resting work fresh clean))
    · cases bound : (s.record (s.slotAt n)).boundHead with
      | none => exact .still (forwardArrival_unbound atE (b.unbound_of bound))
      | some h =>
        have link := b.link_of bound
        refine .bound h atE link ?_
        rw [forwardArrival_bound loaded atE bound]
        exact turretArrival_footprint (fun l => slot_of_tag link) n room
  · exact .still (forwardArrival_other loaded)

end

/-! ### The arrivals of one advance -/

/-- The arrivals at the positions below n (R39). -/
def arrivalsBelow (φ : Fin 24) (s : State) (n : Nat) : State :=
  ((List.range n).filter (fun p => decide (s.stationE ≤ p ∧ p ≤ s.stationR))).foldl (forwardArrival φ) s

theorem arrivalsBelow_all (φ : Fin 24) (s : State) : arrivalsBelow φ s 64 = forwardArrivals φ s := rfl

section
variable {φ : Fin 24} {s : State} {n : Nat}

theorem arrivalsBelow_in (turret : s.stationE ≤ n ∧ n ≤ s.stationR) :
    arrivalsBelow φ s (n + 1) = forwardArrival φ (arrivalsBelow φ s n) n := by
  rw [arrivalsBelow, List.range_succ, List.filter_append, List.foldl_append, List.filter_cons_of_pos (by simpa using turret)]
  rfl

theorem arrivalsBelow_out (away : ¬ (s.stationE ≤ n ∧ n ≤ s.stationR)) :
    arrivalsBelow φ s (n + 1) = arrivalsBelow φ s n := by
  rw [arrivalsBelow, List.range_succ, List.filter_append, List.foldl_append, List.filter_cons_of_neg (by simpa using away)]
  rfl

theorem arrivalsBelow_quiet (φ : Fin 24) (s : State) (n : Nat) : Quiet onlyFull s (arrivalsBelow φ s n) :=
  Quiet.foldl (Quiet.forwardArrival φ) _ s

/-- Nothing arrives below E. -/
theorem arrivalsBelow_first (low : n ≤ s.stationE) : arrivalsBelow φ s n = s := by
  induction n with
  | zero => rfl
  | succ n ih => rw [arrivalsBelow_out (by omega), ih (by omega)]

theorem stations_congr {s t : State} (same : t.tu.stations = s.tu.stations) : t.stationE = s.stationE ∧
    t.stationG = s.stationG ∧ t.stationC = s.stationC ∧ t.stationR = s.stationR ∧ t.stationJ = s.stationJ := by
  simp only [State.stationE, State.stationG, State.stationC, State.stationR, State.stationJ, same, and_self]

theorem tagOf_quiet {C : TripCause → Prop} {s t : State} (q : Quiet C s t) (k : Fin 64) : t.tagOf k = s.tagOf k := by
  rw [State.tagOf, State.tagOf, (q.grows k).serial]

end

/-- The start of the arrivals of an advance: every bond, a valid table, and room for every command of the advance (R136). -/
structure State.Roomy (full : Prop) (s : State) : Prop where
  bonded : s.Bonded full 0 0 none
  ordered : s.Ordered
  room : s.lp.queue.length ≤ 23

namespace State.Roomy
variable {full : Prop} {s : State} {n : Nat}

/-- The commands that the arrivals at the positions below n queue at most. -/
def commandsBelow (s : State) (n : Nat) : Nat := min n (s.stationR + 1) - s.stationE + if s.stationC < n then 1 else 0

theorem bondedBelow (r : s.Roomy full) (φ : Fin 24) (track : n ≤ 64) : (arrivalsBelow φ s n).Bonded full 0 n none :=
  r.bonded.swept φ track

/-- The commands of one more position. -/
theorem commandsBelow_succ (r : s.Roomy full) (turret : s.stationE ≤ n ∧ n ≤ s.stationR) :
    commandsBelow s n + s.arrivalCommands n = commandsBelow s (n + 1) ∧ commandsBelow s (n + 1) ≤ 25 := by
  have := r.ordered.span
  have := r.ordered.gas
  have := r.ordered.charge
  have := r.ordered.release
  unfold commandsBelow State.arrivalCommands
  constructor
  · split <;> split <;> split <;> omega
  · split <;> omega

/-- No arrival of the advance finds the queue full, so that nothing but heads, records and the queue changes. -/
theorem below (r : s.Roomy full) (φ : Fin 24) (track : n ≤ 64) :
    arrivalsBelow φ s n = { s with
      lp.queue := (arrivalsBelow φ s n).lp.queue
      hu.heads := (arrivalsBelow φ s n).hu.heads
      tu.ring := (arrivalsBelow φ s n).tu.ring } ∧
    (arrivalsBelow φ s n).lp.queue.length ≤ s.lp.queue.length + commandsBelow s n := by
  induction n with
  | zero => exact ⟨rfl, Nat.le_add_right _ _⟩
  | succ n ih =>
    obtain ⟨rest, length⟩ := ih (by omega)
    by_cases turret : s.stationE ≤ n ∧ n ≤ s.stationR
    · obtain ⟨count, most⟩ := r.commandsBelow_succ turret
      have first := r.room
      have commands : (arrivalsBelow φ s n).arrivalCommands n = s.arrivalCommands n := by
        rw [State.arrivalCommands, State.arrivalCommands, (stations_congr (arrivalsBelow_quiet φ s n).stations).2.2.1]
      have some_one : 1 ≤ s.arrivalCommands n := by unfold State.arrivalCommands; split <;> omega
      have whole {u : State} (next : u = { arrivalsBelow φ s n with
          lp.queue := u.lp.queue, hu.heads := u.hu.heads, tu.ring := u.tu.ring }) :
          u = { s with lp.queue := u.lp.queue, hu.heads := u.hu.heads, tu.ring := u.tu.ring } := by
        rw [next, rest]
      rw [arrivalsBelow_in turret]
      rcases (r.bondedBelow φ (by omega)).arrivalAt (n := n) (by omega) φ with
        same | ⟨h, -, -, moves⟩ | ⟨-, -, -, -, -, moves⟩ | ⟨-, record, marks⟩
      · rw [same]
        exact ⟨rest, by omega⟩
      · have := moves.length
        exact ⟨whole moves.rest, by omega⟩
      · have := moves.length
        exact ⟨whole moves.rest, by omega⟩
      · rw [marks]
        have same : ((arrivalsBelow φ s n).setRecord ((arrivalsBelow φ s n).slotAt n) record).lp.queue =
          (arrivalsBelow φ s n).lp.queue := rfl
        exact ⟨whole rfl, by rw [same]; omega⟩
    · rw [arrivalsBelow_out turret]
      refine ⟨rest, length.trans (Nat.add_le_add_left ?_ _)⟩
      unfold commandsBelow
      split <;> split <;> omega

/-- The arrival at a position of the turret, after those below it. -/
theorem arrival (r : s.Roomy full) (φ : Fin 24) (track : n < 64) (turret : s.stationE ≤ n ∧ n ≤ s.stationR) :
    (arrivalsBelow φ s n).lp.queue.length + (arrivalsBelow φ s n).arrivalCommands n ≤ 48 ∧
      ArrivalAt φ n (arrivalsBelow φ s n) := by
  obtain ⟨count, most⟩ := r.commandsBelow_succ turret
  have first := r.room
  have length := (r.below φ (n := n) (by omega)).2
  have commands : (arrivalsBelow φ s n).arrivalCommands n = s.arrivalCommands n := by
    rw [State.arrivalCommands, State.arrivalCommands, (stations_congr (arrivalsBelow_quiet φ s n).stations).2.2.1]
  have room : (arrivalsBelow φ s n).lp.queue.length + (arrivalsBelow φ s n).arrivalCommands n ≤ 48 := by omega
  exact ⟨room, (r.bondedBelow φ (by omega)).arrivalAt room φ⟩

/-- A record that none of the positions from a to n holds is left by the arrivals there. -/
theorem record_between (r : s.Roomy full) (φ : Fin 24) {a : Nat} (from_a : a ≤ n) (track : n ≤ 64) {k : Fin 64}
    (away : ∀ p, a ≤ p → p < n → s.position k ≠ p) :
    (arrivalsBelow φ s n).record k = (arrivalsBelow φ s a).record k := by
  induction n with
  | zero => rw [Nat.le_zero.mp from_a]
  | succ n ih =>
    rcases Nat.eq_or_lt_of_le from_a with rfl | later
    · rfl
    have upTo := ih (by omega) (by omega) fun p low high => away p low (by omega)
    by_cases turret : s.stationE ≤ n ∧ n ≤ s.stationR
    · have other : k ≠ (arrivalsBelow φ s n).slotAt n := by
        rw [(arrivalsBelow_quiet φ s n).slotAt, Ne, eq_slotAt_iff s k (by omega)]
        exact away n (by omega) (by omega)
      rw [arrivalsBelow_in turret, ← upTo]
      rcases (r.arrival φ (by omega) turret).2 with same | ⟨h, -, -, moves⟩ | ⟨-, -, -, -, -, moves⟩ | ⟨-, record, marks⟩
      · rw [same]
      · exact moves.record k other
      · exact moves.record k other
      · rw [marks, record_setRecord_ne other]
    · rw [arrivalsBelow_out turret, upTo]

/-- A head bound to no record of the positions from a to n, and not IDLE when E is among them, keeps its context and its
commands through the arrivals there. -/
theorem head_between (r : s.Roomy full) (φ : Fin 24) {a : Nat} (from_a : a ≤ n) (track : n ≤ 64) {h : Fin 24}
    (away : ∀ p l, a ≤ p → p < n → ((arrivalsBelow φ s a).head h).bound = some l → s.position l.slot ≠ p)
    (busy : s.stationE < a ∨ ((arrivalsBelow φ s a).head h).state ≠ .idle ∨ h ≠ φ) :
    (arrivalsBelow φ s n).head h = (arrivalsBelow φ s a).head h ∧
      (arrivalsBelow φ s n).queuedFor h = (arrivalsBelow φ s a).queuedFor h := by
  induction n with
  | zero => rw [Nat.le_zero.mp from_a]; exact ⟨rfl, rfl⟩
  | succ n ih =>
    rcases Nat.eq_or_lt_of_le from_a with rfl | later
    · exact ⟨rfl, rfl⟩
    obtain ⟨head, queue⟩ := ih (by omega) (by omega) fun p l low high => away p l low (by omega)
    by_cases turret : s.stationE ≤ n ∧ n ≤ s.stationR
    · have E := (stations_congr (arrivalsBelow_quiet φ s n).stations).1
      rw [arrivalsBelow_in turret, ← head, ← queue]
      rcases (r.arrival φ (by omega) turret).2 with same | ⟨j, -, link, moves⟩ | ⟨atE, idle, -, -, -, moves⟩ | ⟨-, record, marks⟩
      · rw [same]; exact ⟨rfl, rfl⟩
      · have other : h ≠ j := by
          rintro rfl
          rw [head] at link
          refine away n _ (by omega) (by omega) link ?_
          show s.position ((arrivalsBelow φ s n).slotAt n) = n
          rw [(arrivalsBelow_quiet φ s n).slotAt, position_slotAt s (by omega)]
        exact ⟨moves.head h other, moves.queued h other⟩
      · have other : h ≠ φ := by
          rcases busy with past | state | other
          · omega
          · rintro rfl
            exact absurd (head ▸ idle) state
          · exact other
        exact ⟨moves.head h other, moves.queued h other⟩
      · rw [marks]; exact ⟨rfl, rfl⟩
    · rw [arrivalsBelow_out turret]
      exact ⟨head, queue⟩

/-- No arrival above E queues an ENGAGE. -/
theorem engage_between (r : s.Roomy full) (φ : Fin 24) {a : Nat} (from_a : a ≤ n) (track : n ≤ 64)
    (past : s.stationE < a) {c : HeadCommand} (engage : c.kind = .engage) (mem : c ∈ (arrivalsBelow φ s n).lp.queue) :
    c ∈ (arrivalsBelow φ s a).lp.queue := by
  induction n with
  | zero => rwa [Nat.le_zero.mp from_a]
  | succ n ih =>
    rcases Nat.eq_or_lt_of_le from_a with rfl | later
    · exact mem
    refine ih (by omega) (by omega) ?_
    by_cases turret : s.stationE ≤ n ∧ n ≤ s.stationR
    · have E := (stations_congr (arrivalsBelow_quiet φ s n).stations).1
      rw [arrivalsBelow_in turret] at mem
      rcases (r.arrival φ (by omega) turret).2 with same | ⟨j, -, -, moves⟩ | ⟨atE, -⟩ | ⟨atE, -⟩
      · rwa [same] at mem
      · exact (moves.engage c mem engage).resolve_right id
      · omega
      · omega
    · rwa [arrivalsBelow_out turret] at mem

end State.Roomy

end Sys2Proof.Machine
end

-- ==== Proofs: the parts of an INDEX frame ====
section
/-! PROOF. A FORWARD advance in three parts: the move of the ring with the admission, the arrivals at the turret, and the gate
with the report and the end of a drain; and what each of them leaves (R10, R11, R21, R145). -/

namespace Sys2Proof.Machine

/-! ### The gate and the end of a drain -/

/-- The gate takes the LOADED record at J, if one stands there. -/
theorem gateArrival_cases (s : State) :
    (gateArrival s = s ∧ ∀ k, (s.record k).state = .loaded → s.position k ≠ s.stationJ) ∨
      ∃ k, s.position k = s.stationJ ∧ (s.record k).state = .loaded ∧ gateArrival s = giveVerdict k s := by
  unfold gateArrival State.slotAtStation
  by_cases track : s.stationJ ≤ 63
  · rw [if_pos track]
    dsimp only
    by_cases loaded : (s.record (s.slotAt s.stationJ)).state = .loaded
    · exact .inr ⟨_, position_slotAt s (by omega), loaded, if_pos loaded⟩
    · refine .inl ⟨if_neg loaded, fun k there at_J => loaded ?_⟩
      rwa [← (eq_slotAt_iff s k (by omega)).mpr at_J]
  · rw [if_neg track]
    refine .inl ⟨rfl, fun k _ at_J => ?_⟩
    have := position_lt s k
    omega

theorem gateArrival_heads (s : State) : (gateArrival s).hu = s.hu ∧ (gateArrival s).lp = s.lp ∧
    (gateArrival s).nc.mode = s.nc.mode := by
  rcases gateArrival_cases s with ⟨same, -⟩ | ⟨k, -, -, given⟩
  · rw [same]; exact ⟨rfl, rfl, rfl⟩
  · rw [given]; exact State.Bonded.giveVerdict_heads k s

theorem gateArrival_record {s : State} {k : Fin 64} (away : s.position k ≠ s.stationJ ∨ (s.record k).state ≠ .loaded) :
    (gateArrival s).record k = s.record k := by
  rcases gateArrival_cases s with ⟨same, -⟩ | ⟨j, at_J, loaded, given⟩
  · rw [same]
  · have other : k ≠ j := by
      rintro rfl
      exact away.elim (fun x => x at_J) fun x => x loaded
    rw [given, State.Accounted.giveVerdict_record, if_neg other]

/-- The end of a drain changes the mode and the recipe store alone, and only in DRAIN with the ring empty. -/
theorem endDrain_cases (s : State) :
    (endDrain s = s ∧ ¬ (s.nc.mode = .drain ∧ s.nc.ringEmpty = true)) ∨
      (s.nc.mode = .drain ∧ s.nc.ringEmpty = true ∧
        endDrain s = { s with nc.mode := .standby, rs := s.rs.applyParked (fun _ => true) }) := by
  by_cases ends : s.nc.mode = .drain ∧ s.nc.ringEmpty = true
  · exact .inr ⟨ends.1, ends.2, if_pos ends⟩
  · exact .inl ⟨if_neg ends, ends⟩

/-- The report and the end of a drain change nothing but the mode, TU's report and the recipe store. -/
theorem endDrain_report (s : State) : endDrain (reportRing s) = { s with
    nc.mode := (endDrain (reportRing s)).nc.mode
    nc.ringEmpty := s.allEmpty
    rs := (endDrain (reportRing s)).rs } := by
  rcases endDrain_cases (reportRing s) with ⟨same, -⟩ | ⟨-, -, ends⟩
  · rw [same]; rfl
  · rw [ends]; rfl

theorem drained_parts (s : State) : (endDrain (reportRing s)).hu = s.hu ∧ (endDrain (reportRing s)).lp = s.lp ∧
    (endDrain (reportRing s)).tu = s.tu ∧ (endDrain (reportRing s)).vu = s.vu ∧
    (endDrain (reportRing s)).nc.alerts = s.nc.alerts ∧ (endDrain (reportRing s)).nc.tripCause = s.nc.tripCause := by
  rw [endDrain_report]
  exact ⟨rfl, rfl, rfl, rfl, rfl, rfl⟩

theorem drained_record (s : State) (k : Fin 64) : (endDrain (reportRing s)).record k = s.record k := by
  obtain ⟨-, -, tu, -⟩ := drained_parts s
  simp only [State.record, tu]

theorem endDrain_away {s : State} (away : s.nc.mode ≠ .drain) : endDrain (reportRing s) = reportRing s :=
  if_neg fun both => away both.1

/-! ### The move of the ring and the admission -/

/-- The ring moved on and the infeed served (R11 steps 1 to 3). -/
def entered (φ : Fin 24) (s : State) : State := (admission φ (originForward (exitAtX s))).2

theorem forwardAdvance_eq (φ : Fin 24) (s : State) : (forwardAdvance φ s).2 = gateArrival (forwardArrivals φ (entered φ s)) := rfl

section
variable (φ : Fin 24) (s : State)

theorem admission_cases : ((admission φ s).1 = false ∧ (admission φ s).2 = s) ∨
    (∃ a, s.nc.mode = .run ∧ s.feedDecision φ = .hold (some a) ∧ (admission φ s).1 = false ∧
      (admission φ s).2 = raiseAlert a s) ∨
    ∃ c p, s.nc.mode = .run ∧ s.feedDecision φ = .feed c p ∧ (admission φ s).1 = true ∧ (admission φ s).2 = feed φ c p s := by
  unfold admission
  split
  next run =>
    cases decision : s.feedDecision φ with
    | hold a =>
      cases a with
      | none => exact .inl ⟨rfl, rfl⟩
      | some a => exact .inr (.inl ⟨a, run, rfl, rfl, rfl⟩)
    | feed c p => exact .inr (.inr ⟨c, p, run, rfl, rfl, rfl⟩)
  next => exact .inl ⟨rfl, rfl⟩

theorem entered_hu : (entered φ s).hu = s.hu := by
  rcases admission_cases φ (originForward (exitAtX s)) with ⟨-, e⟩ | ⟨a, -, -, -, e⟩ | ⟨c, p, -, -, -, e⟩ <;>
    rw [entered, e] <;> rfl

theorem entered_head (h : Fin 24) : (entered φ s).head h = s.head h := by simp only [State.head, entered_hu]

theorem entered_queue : (entered φ s).lp.queue = s.lp.queue := by
  rcases admission_cases φ (originForward (exitAtX s)) with ⟨-, e⟩ | ⟨a, -, -, -, e⟩ | ⟨c, p, -, -, -, e⟩ <;>
    rw [entered, e] <;> rfl

theorem entered_mode : (entered φ s).nc.mode = s.nc.mode ∧ (entered φ s).nc.tripCause = s.nc.tripCause := by
  rcases admission_cases φ (originForward (exitAtX s)) with ⟨-, e⟩ | ⟨a, -, -, -, e⟩ | ⟨c, p, -, -, -, e⟩ <;>
    rw [entered, e] <;> exact ⟨rfl, rfl⟩

theorem entered_words (k : Fin 8) (w : Fin 16) : (entered φ s).recipeWord k w = s.recipeWord k w := by
  rcases admission_cases φ (originForward (exitAtX s)) with ⟨-, e⟩ | ⟨a, -, -, -, e⟩ | ⟨c, p, -, -, -, e⟩ <;>
    rw [entered, e] <;> rfl

theorem entered_stations : (entered φ s).tu.stations = s.tu.stations := by
  rcases admission_cases φ (originForward (exitAtX s)) with ⟨-, e⟩ | ⟨a, -, -, -, e⟩ | ⟨c, p, -, -, -, e⟩ <;>
    rw [entered, e] <;> rfl

theorem entered_origin : (entered φ s).tu.origin = s.tu.origin - 1 := by
  rcases admission_cases φ (originForward (exitAtX s)) with ⟨-, e⟩ | ⟨a, -, -, -, e⟩ | ⟨c, p, -, -, -, e⟩ <;>
    rw [entered, e] <;> rfl

theorem entered_position (k : Fin 64) : (entered φ s).position k = if s.position k = 63 then 0 else s.position k + 1 := by
  have moved := State.Accounted.position_exitMoved s k
  rw [← moved]
  simp only [State.position, entered_origin, originForward_origin, exitAtX_origin]

/-- The record at position 63 left, and every other stays but for its position. -/
theorem entered_record {k : Fin 64} (away : k ≠ s.slotAt 63) : (entered φ s).record k = s.record k := by
  have exit : (originForward (exitAtX s)).record k = s.record k := record_setRecord_ne away s _
  rcases admission_cases φ (originForward (exitAtX s)) with ⟨-, e⟩ | ⟨a, -, -, -, e⟩ | ⟨c, p, -, -, -, e⟩
  · rw [entered, e, exit]
  · rw [entered, e]
    exact exit
  · have first : (originForward (exitAtX s)).slotAt 0 = s.slotAt 63 := slotAt_originForward_zero (exitAtX s)
    rw [entered, e, feed_record, first, if_neg away, exit]

theorem entered_working : (entered φ s).working ↔ s.working := by
  simp only [State.working, (entered_mode φ s).1]

end

/-- The slot at 63 holds no LOADED record. -/
theorem loaded_away {s : State} (a : s.Accounted) {k : Fin 64} (loaded : (s.record k).state = .loaded) :
    k ≠ s.slotAt 63 ∧ s.position k ≠ 63 := by
  have away : k ≠ s.slotAt 63 := by
    rintro rfl
    exact a.exit_notLoaded (by decide) (by decide) loaded
  exact ⟨away, fun e => away ((eq_slotAt_iff s k (by decide)).mpr e)⟩

theorem entered_loaded {s : State} (a : s.Accounted) (φ : Fin 24) {k : Fin 64} (loaded : (s.record k).state = .loaded) :
    (entered φ s).record k = s.record k ∧ (entered φ s).position k = s.position k + 1 := by
  obtain ⟨away, short⟩ := loaded_away a loaded
  exact ⟨entered_record φ s away, by rw [entered_position, if_neg short]⟩

theorem State.Bonded.entered {full : Prop} {s : State} (a : s.Accounted) (b : s.Bonded full 0 64 none) (φ : Fin 24) :
    (entered φ s).Bonded full 0 0 none := by
  have exit : (exitAtX s).Bonded full 0 64 none :=
    b.setUnbound (b.unbound_unloaded (a.exit_notLoaded (by decide) (by decide))) rfl
  exact exit.originForward.admission φ

/-- The start of the arrivals, in a state with room for all their commands. -/
theorem State.Roomy.of_entered {full : Prop} {s : State} (a : s.Accounted) (b : s.Bonded full 0 64 none) (ordered : s.Ordered)
    (room : s.lp.queue.length ≤ 23) (φ : Fin 24) : (entered φ s).Roomy full where
  bonded := b.entered a φ
  ordered := ordered.congr (entered_stations φ s)
  room := by rwa [entered_queue]

/-! ### What a FORWARD advance leaves after the arrivals -/

section
variable (φ : Fin 24) (s : State)

theorem forward_after : (takeAdvance .forward φ s).2.hu = (forwardArrivals φ (entered φ s)).hu ∧
    (takeAdvance .forward φ s).2.lp = (forwardArrivals φ (entered φ s)).lp := by
  obtain ⟨hu, lp, -⟩ := gateArrival_heads (forwardArrivals φ (entered φ s))
  obtain ⟨huAfter, lpAfter, -⟩ := drained_parts (gateArrival (forwardArrivals φ (entered φ s)))
  rw [State.Accounted.takeAdvance_forward, forwardAdvance_eq]
  exact ⟨huAfter.trans hu, lpAfter.trans lp⟩

theorem forward_record {k : Fin 64} (away : (entered φ s).position k ≠ s.stationJ ∨ ((entered φ s).record k).state ≠ .loaded) :
    (takeAdvance .forward φ s).2.record k = (forwardArrivals φ (entered φ s)).record k := by
  have arrived := Quiet.forwardArrivals φ (entered φ s)
  rw [State.Accounted.takeAdvance_forward, forwardAdvance_eq, drained_record]
  have J := (stations_congr (arrived.stations.trans (entered_stations φ s))).2.2.2.2
  refine gateArrival_record ?_
  rw [arrived.position, J, arrived.state]
  exact away

end

/-! ### The frame that follows -/

/-- A FORWARD frame that follows is taken by its advance from the adopted state. -/
theorem exec_forward {ws : List Word} {f : IndexFrame} {s : State} (read : classify ws = .index f)
    (forward : f.advance = .forward) (awake : s.bypassed = false) (follows : s.follows f) :
    exec (.indexFrame ws) s = .next (putTransit
      (.accepted (indexLead ws (takeAdvance .forward f.phase (adopt f (restartGap s))).1))
      (takeAdvance .forward f.phase (adopt f (restartGap s))).2) := by
  rw [exec_indexFrame read awake, takeIndex_follows follows, forward]

theorem adopted_accounted {s : State} (a : s.Accounted) (f : IndexFrame) : (adopt f (restartGap s)).Accounted :=
  a.same rfl rfl rfl rfl rfl rfl rfl

theorem adopted_bonded {full : Prop} {s : State} (b : s.Bonded full 0 64 none) (f : IndexFrame) :
    (adopt f (restartGap s)).Bonded full 0 64 none := b.plain rfl rfl rfl rfl rfl rfl

end Sys2Proof.Machine
end

-- ==== Proofs: the forward arrivals of a bound record ====
section
/-! PROOF. The forward arrival of a bound record above E (R39): the state in which it is taken, its exact result by the state of the
head (R42 to R46, R79), and that the other arrivals of the advance leave its record, its head and that head's commands. -/

namespace Sys2Proof.Machine

/-! ### The exact arrivals -/

/-- What a command that finds room leaves, and that it is queued. -/
theorem queueCommand_leaves {s : State} (c : HeadCommand) (room : s.lp.queue.length < 48) :
    (∀ k, (queueCommand c s).record k = s.record k) ∧ (∀ h, (queueCommand c s).head h = s.head h) ∧
      c ∈ (queueCommand c s).lp.queue := by
  have shorter := List.length_filter_le (keepsCommand c) s.lp.queue
  rw [queueCommand_room (by omega)]
  exact ⟨fun _ => rfl, fun _ => rfl, List.mem_append_right _ (List.mem_singleton.mpr rfl)⟩

section
variable {h : Fin 24} {l : Link} {s : State} {p : Nat}

/-- The clamp wait of an ENGAGED head (R42). -/
theorem clampWait_arrives (bound : (s.head h).bound = some l) (named : s.namesLoaded l = true)
    (state : (s.head h).state = .engaged) (below : p ≠ s.stationR) (k : Fin 64) (slot : k = l.slot) :
    turretArrival h k p s =
      if (s.recipeWord (s.record l.slot).recipe 4).toNat < (s.head h).clampWait + 1 ∨ p = s.stationC then
        queueKind h .abort ((s.setRecord l.slot { s.record l.slot with
          bound := false, causes := addCause .noClamp (s.record l.slot).causes }).setHead h { s.head h with
            clampWait := (s.head h).clampWait + 1, state := .aborting, bound := none, trailing := some l, timer := none })
      else s.setHead h { s.head h with clampWait := (s.head h).clampWait + 1 } := by
  subst slot
  have arrival : turretArrival h l.slot p s = clampWaitArrival h (s.record l.slot) p s := by
    unfold turretArrival
    rw [if_neg below, state]
  have counted := leaveTo_unbind_eq (s := s.setHead h { s.head h with clampWait := (s.head h).clampWait + 1 })
    (by rw [head_setHead_self]; exact bound) named .noClamp .aborting
  rw [arrival, clampWaitArrival, head_setHead_self] at *
  refine if_congr Iff.rfl ?_ rfl
  rw [abortHead, counted, setRecord_setHead, setHead_setHead]
  rfl

/-- The arrival of a CLAMPED head's record (R43). -/
theorem clamped_arrives (bound : (s.head h).bound = some l) (named : s.namesLoaded l = true) (work : s.working)
    (state : (s.head h).state = .clamped) (below : p ≠ s.stationR) (k : Fin 64) :
    turretArrival h k p s = if s.atGas (s.position l.slot) = true then
      queueKind h .openGas ((s.setRecord l.slot { s.record l.slot with
        doseLoaded := some (trimmedDose s (s.record l.slot))
        causes := addCauseIf (trimFactor s (s.record l.slot)).2 (s.record l.slot).causes }).setHead h { s.head h with
          state := .charging, doseCounter := trimmedDose s (s.record l.slot) })
      else s := by
  have arrival : turretArrival h k p s = openIfReady h s := by
    unfold turretArrival
    rw [if_neg below, state]
  rw [arrival, openIfReady, bound]
  dsimp only
  by_cases gas : s.atGas (s.position l.slot) = true
  · rw [if_pos ⟨state, gas, work⟩, if_pos gas, openCharge_eq named]
  · rw [if_neg (fun all => gas all.2.1), if_neg gas]

theorem sendCrimp_ready (bound : (s.head h).bound = some l) (state : (s.head h).state = .settling)
    (there : s.stationC ≤ s.position l.slot) (below : s.position l.slot < s.stationR) (work : s.working) :
    sendCrimp h s = queueCommand ⟨h, .crimp, s.recipeWord (s.record l.slot).recipe 15⟩ (leaveTo h .crimping s) := by
  unfold sendCrimp
  rw [bound]
  exact if_pos ⟨state, there, below, work⟩

/-- The end of the charge of a record at C, with room for its CLOSE and its CRIMP (R44, R45). -/
theorem endCharge_atC (bound : (s.head h).bound = some l) (there : s.stationC ≤ s.position l.slot)
    (below : s.position l.slot < s.stationR) (work : s.working) (room : s.lp.queue.length + 2 ≤ 48) :
    (∀ k, (endCharge h s).record k = s.record k) ∧
      (endCharge h s).head h = { s.head h with state := .crimping, timer := none } ∧
      (⟨h, .closeGas, 0⟩ : HeadCommand) ∈ (endCharge h s).lp.queue ∧
      (⟨h, .crimp, s.recipeWord (s.record l.slot).recipe 15⟩ : HeadCommand) ∈ (endCharge h s).lp.queue := by
  have shorter := List.length_filter_le (keepsCommand ⟨h, .closeGas, 0⟩) s.lp.queue
  have self : (leaveTo h .settling s).head h = { s.head h with state := .settling, timer := none } := by
    rw [head_leaveTo, if_pos rfl]
  have closed : queueKind h .closeGas (leaveTo h .settling s) = { leaveTo h .settling s with
      lp.queue := s.lp.queue.filter (keepsCommand ⟨h, .closeGas, 0⟩) ++ [⟨h, .closeGas, 0⟩] } :=
    queueCommand_room (s := leaveTo h .settling s) (by rw [leaveTo_lp]; omega)
  have ended : endCharge h s = queueCommand ⟨h, .crimp, s.recipeWord (s.record l.slot).recipe 15⟩
      { leaveTo h .crimping (leaveTo h .settling s) with
        lp.queue := s.lp.queue.filter (keepsCommand ⟨h, .closeGas, 0⟩) ++ [⟨h, .closeGas, 0⟩] } := by
    rw [endCharge, closed]
    refine sendCrimp_ready (l := l) ?_ ?_ there below work
    · exact (congrArg HeadContext.bound self).trans bound
    · exact congrArg HeadContext.state self
  rw [ended, queueCommand_joins (fun _ => rfl) (by
    show (_ ++ [_]).length < 48
    rw [List.length_append, List.length_singleton]
    omega)]
  refine ⟨fun _ => rfl, ?_, ?_, ?_⟩
  · show (leaveTo h .crimping (leaveTo h .settling s)).head h = _
    rw [head_leaveTo, if_pos rfl, self]
  · exact List.mem_append_left _ (List.mem_append_right _ (List.mem_singleton.mpr rfl))
  · exact List.mem_append_right _ (List.mem_singleton.mpr rfl)

/-- The release at R (R46). -/
theorem release_arrives (bound : (s.head h).bound = some l) (named : s.namesLoaded l = true) (last : p = s.stationR)
    (k : Fin 64) (slot : k = l.slot) : turretArrival h k p s =
      queueKind h .release ((s.setRecord l.slot { s.record l.slot with
        released := true, bound := false
        causes := addCauseIf (releaseCause (s.head h).state) (s.record l.slot).causes }).setHead h { s.head h with
          state := freeState (s.head h), bound := none, trailing := some l, timer := none }) := by
  subst slot
  have tag : s.tagOf l.slot = l := by rw [State.tagOf, (namesLoaded_iff.mp named).2]
  have arrival : turretArrival h l.slot p s = releaseArrival h l.slot s := if_pos last
  generalize written : ({ s.record l.slot with
    released := true, causes := addCauseIf (releaseCause (s.head h).state) (s.record l.slot).causes } : Record) = r
  have state : r.state = .loaded := by rw [← written]; exact (namesLoaded_iff.mp named).1
  have serial : r.serial = l.serial := by rw [← written]; exact (namesLoaded_iff.mp named).2
  have still : ((s.setRecord l.slot r).setHead h { s.head h with
      bound := none, trailing := some l }).namesLoaded l = true := by
    rw [namesLoaded_iff, setHead_record, record_setRecord_self]
    exact ⟨state, serial⟩
  have freed : unbind h (s.setRecord l.slot r) = (s.setRecord l.slot { r with bound := false }).setHead h { s.head h with
      bound := none, trailing := some l } := by
    rw [unbind_bound (s := s.setRecord l.slot r) bound, setRecord_head, writeLoaded_named still, setHead_record,
      record_setRecord_self, setRecord_setHead, setRecord_setRecord]
  rw [arrival, releaseArrival, tag]
  dsimp only
  rw [writeLoaded_named named, written, freed, head_setHead_self, leaveTo, head_setHead_self, setHead_setHead, ← written]
  rfl

end

/-! ### Where the arrival is taken -/

/-- The trim of a can reads the recipe words and the Trim Table alone (R64, R65). -/
theorem trim_congr {s t : State} (words : ∀ k w, t.recipeWord k w = s.recipeWord k w) (trim : t.hu.trim = s.hu.trim)
    (rows : t.hu.trimRows = s.hu.trimRows) (r : Record) :
    trimmedDose t r = trimmedDose s r ∧ trimFactor t r = trimFactor s r := by
  have row (x : Int) : trimRowFor t x = trimRowFor s x := by simp only [trimRowFor, trim, rows]
  have factor : trimFactor t r = trimFactor s r := by simp only [trimFactor, words, trim, rows, row]
  exact ⟨by simp only [trimmedDose, words, factor], factor⟩

/-- State a is the one in which the arrival of head h's bound record is taken, in an advance from state s. -/
structure TurretStart (s : State) (h : Fin 24) (l : Link) (a : State) : Prop where
  bonded : a.Bonded True 0 (a.position l.slot) none
  head : a.head h = s.head h
  record : a.record l.slot = s.record l.slot
  position : a.position l.slot = s.position l.slot + 1
  stations : a.tu.stations = s.tu.stations
  words : ∀ k w, a.recipeWord k w = s.recipeWord k w
  trim : a.hu.trim = s.hu.trim
  rows : a.hu.trimRows = s.hu.trimRows
  room : a.lp.queue.length + a.arrivalCommands (a.position l.slot) ≤ 48

/-- State t keeps what the arrival of head h's record left of both, and of the head's commands. -/
structure TurretEnd (h : Fin 24) (k : Fin 64) (u t : State) : Prop where
  record : t.record k = u.record k
  head : t.head h = u.head h
  queue : t.queuedFor h = u.queuedFor h

theorem TurretEnd.mem {h : Fin 24} {k : Fin 64} {u t : State} (x : TurretEnd h k u t) {c : HeadCommand} (own : c.head = h)
    (queued : c ∈ u.lp.queue) : c ∈ t.lp.queue := by
  have mem : c ∈ u.queuedFor h := mem_queuedFor.mpr ⟨queued, own⟩
  rw [← x.queue] at mem
  exact (mem_queuedFor.mp mem).1

namespace State.Roomy
variable {full : Prop} {s : State} {h : Fin 24} {l : Link}

theorem place (r : s.Roomy full) (bound : (s.head h).bound = some l) :
    s.stationE < s.position l.slot ∧ s.position l.slot ≤ s.stationR := by
  have x := r.bonded.placed h l nofun bound
  exact ⟨x.toCome (Nat.zero_le _), x.high⟩

/-- The arrivals below a bound record leave it and its head. -/
theorem bound_before (r : s.Roomy full) (bound : (s.head h).bound = some l) (φ : Fin 24) :
    (arrivalsBelow φ s (s.position l.slot)).record l.slot = s.record l.slot ∧
      (arrivalsBelow φ s (s.position l.slot)).head h = s.head h := by
  have track := position_lt s l.slot
  have state : (s.head h).state ≠ .idle := fun idle => by
    have := r.bonded.legal.bound h
    simp [idle, bound, HeadState.isBound] at this
  refine ⟨r.record_between φ (Nat.zero_le _) track.le fun p _ below => below.ne', ?_⟩
  refine (r.head_between φ (Nat.zero_le _) track.le (fun p m _ below link => ?_) (.inr (.inl state))).1
  have link : (s.head h).bound = some m := link
  rw [bound] at link
  cases link
  exact below.ne'

/-- The arrival of a bound record at its position. -/
theorem bound_arrival (r : s.Roomy full) (bound : (s.head h).bound = some l) (φ : Fin 24) :
    arrivalsBelow φ s (s.position l.slot + 1) =
      turretArrival h l.slot (s.position l.slot) (arrivalsBelow φ s (s.position l.slot)) := by
  obtain ⟨low, high⟩ := r.place bound
  obtain ⟨record, -⟩ := r.bound_before bound φ
  have link := r.bonded.links h l bound
  have quiet := arrivalsBelow_quiet φ s (s.position l.slot)
  have slot : (arrivalsBelow φ s (s.position l.slot)).slotAt (s.position l.slot) = l.slot := by
    rw [quiet.slotAt, slotAt_position]
  have boundHead : (s.record l.slot).boundHead = some h := by rw [Record.boundHead, link.bound, if_pos rfl, link.head]
  have E := (stations_congr quiet.stations).1
  have loaded := (namesLoaded_iff.mp link.named).1
  rw [arrivalsBelow_in ⟨low.le, high⟩, forwardArrival_bound (h := h) (by rw [slot, record]; exact loaded) (by omega)
    (by rw [slot, record]; exact boundHead), slot]

/-- The arrivals above it leave what the arrival of a bound record left. -/
theorem bound_after (r : s.Roomy full) (bound : (s.head h).bound = some l) (φ : Fin 24) :
    TurretEnd h l.slot (turretArrival h l.slot (s.position l.slot) (arrivalsBelow φ s (s.position l.slot)))
      (forwardArrivals φ s) := by
  have track := position_lt s l.slot
  obtain ⟨low, high⟩ := r.place bound
  rw [← r.bound_arrival bound φ, ← arrivalsBelow_all]
  have away {m : Link} (link : ((arrivalsBelow φ s (s.position l.slot + 1)).head h).bound = some m) :
      m.slot = l.slot := by
    have later := (r.bondedBelow φ (n := s.position l.slot + 1) (by omega)).links h m link
    by_contra other
    have between := r.record_between φ (Nat.zero_le (s.position l.slot)) track.le (k := m.slot)
    obtain ⟨room, -⟩ := r.arrival φ track ⟨low.le, high⟩
    obtain ⟨-, head⟩ := r.bound_before bound φ
    have b := r.bondedBelow φ (n := s.position l.slot) track.le
    have moves := turretArrival_footprint (h := h) (k := l.slot) (fun l' link => by
      rw [head, bound] at link
      cases link
      rfl) (s.position l.slot) room
    have same := moves.record m.slot other
    rw [← r.bound_arrival bound φ] at same
    have on := later.bound
    have own := later.head
    rw [same] at on own
    obtain ⟨-, j, head', link'⟩ := b.bonds m.slot on
    rw [own] at head'
    cases head'
    rw [head, bound] at link'
    exact other (congrArg Link.slot (Option.some.inj link')).symm
  obtain ⟨head, queue⟩ := r.head_between φ (a := s.position l.slot + 1) (n := 64) (by omega) (Nat.le_refl _) (h := h)
    (fun p m from_a _ link => by rw [away link]; omega) (.inl (by omega))
  exact ⟨r.record_between φ (by omega) (Nat.le_refl _) fun p from_a _ => by omega, head, queue⟩

end State.Roomy

/-! ### A FORWARD frame that follows, with room for its commands -/

/-- A FORWARD frame took state s to t: state m is the one in which its arrivals were taken. -/
structure ForwardRun (φ : Fin 24) (s m t : State) : Prop where
  start : m.Roomy True
  hu : m.hu = s.hu
  queue : m.lp.queue = s.lp.queue
  mode : m.nc.mode = s.nc.mode
  stations : m.tu.stations = s.tu.stations
  words : ∀ k w, m.recipeWord k w = s.recipeWord k w
  loaded : ∀ k, (s.record k).state = .loaded → m.record k = s.record k ∧ m.position k = s.position k + 1
  huAfter : t.hu = (forwardArrivals φ m).hu
  queueAfter : t.lp.queue = (forwardArrivals φ m).lp.queue
  recordAfter : ∀ k, m.position k ≠ s.stationJ → t.record k = (forwardArrivals φ m).record k

theorem exec_forwardRun {ws : List Word} {f : IndexFrame} {s : State} (read : classify ws = .index f)
    (forward : f.advance = .forward) (awake : s.bypassed = false) (follows : s.follows f) (legal : s.QueueLegal)
    (short : s.lp.queue.length ≤ 23) (ordered : s.Ordered) :
    ∃ m t, exec (.indexFrame ws) s = .next t ∧ ForwardRun f.phase s m t := by
  have accounted := adopted_accounted legal.joined.accounted f
  have bonded := adopted_bonded legal.bonded f
  have table : (adopt f (restartGap s)).Ordered := ordered.congr rfl
  have run := exec_forward read forward awake follows
  obtain ⟨hu, lp⟩ := forward_after f.phase (adopt f (restartGap s))
  have record (k : Fin 64) (away : (entered f.phase (adopt f (restartGap s))).position k ≠ s.stationJ) :=
    forward_record f.phase (adopt f (restartGap s)) (k := k) (.inl away)
  generalize takeAdvance .forward f.phase (adopt f (restartGap s)) = out at run hu lp record
  exact ⟨_, _, run, .of_entered accounted bonded table short f.phase, entered_hu .., entered_queue .., (entered_mode ..).1,
    entered_stations .., fun k w => entered_words .., fun k loaded => entered_loaded accounted f.phase loaded, hu,
    (congrArg LinkPort.queue lp :), record⟩

/-- The frame that brings a bound record on: its arrival is taken in a state of its own, and its result stands. -/
theorem exec_boundArrival {ws : List Word} {f : IndexFrame} {h : Fin 24} {l : Link} {s : State}
    (read : classify ws = .index f) (forward : f.advance = .forward) (awake : s.bypassed = false) (follows : s.follows f)
    (legal : s.QueueLegal) (short : s.lp.queue.length ≤ 23) (bound : (s.head h).bound = some l) :
    ∃ a t, exec (.indexFrame ws) s = .next t ∧ TurretStart s h l a ∧
      TurretEnd h l.slot (turretArrival h l.slot (s.position l.slot + 1) a) t := by
  have ordered := legal.joined.ordered (legal.joined.working h (by rw [bound]; rfl))
  obtain ⟨m, t, run, x⟩ := exec_forwardRun read forward awake follows legal short ordered
  obtain ⟨record, position⟩ := x.loaded l.slot (namesLoaded_iff.mp (legal.joined.joinedHead h l bound).1).1
  have head : m.head h = s.head h := by simp only [State.head, x.hu]
  have there : (m.head h).bound = some l := by rw [head, bound]
  have track := position_lt m l.slot
  obtain ⟨recordBefore, headBefore⟩ := x.start.bound_before there f.phase
  obtain ⟨endRecord, endHead, endQueue⟩ := x.start.bound_after there f.phase
  obtain ⟨low, high⟩ := x.start.place there
  have quiet := arrivalsBelow_quiet f.phase m (m.position l.slot)
  have hu : (arrivalsBelow f.phase m (m.position l.slot)).hu =
      { m.hu with heads := (arrivalsBelow f.phase m (m.position l.slot)).hu.heads } :=
    congrArg State.hu (x.start.below f.phase track.le).1
  have b := x.start.bondedBelow f.phase track.le
  have room := (x.start.arrival f.phase track ⟨low.le, high⟩).1
  have here := quiet.position l.slot
  have gate : m.position l.slot ≠ s.stationJ := by
    have := (stations_congr x.stations).2.2.2
    have := ordered.afterRelease
    have := ordered.crimped
    have := ordered.gate
    omega
  rw [position] at endRecord endHead endQueue
  refine ⟨arrivalsBelow f.phase m (m.position l.slot), t, run, ⟨here.symm ▸ b, headBefore.trans head,
    recordBefore.trans record, here.trans position, quiet.stations.trans x.stations, fun k w => ?_, ?_, ?_, here.symm ▸ room⟩, ?_⟩
  · rw [quiet.recipeWord, x.words]
  · rw [hu, x.hu]
  · rw [hu, x.hu]
  · rw [position]
    refine ⟨(x.recordAfter _ gate).trans endRecord, ?_, ?_⟩
    · rw [State.head, x.huAfter]
      exact endHead
    · rw [State.queuedFor, x.queueAfter]
      exact endQueue

end Sys2Proof.Machine
end

-- ==== Proofs: the engagement, the crimp and the release ====
section
/-! PROOF. What the arrival of a bound record leaves, for each state of its head (R42 to R46, R64 to R66,
R79), and what the engagement attempt at E makes of a LOADED record (R40, R41). -/

namespace Sys2Proof.Machine

namespace TurretStart
variable {s a : State} {h : Fin 24} {l : Link}

theorem bound (x : TurretStart s h l a) (bound : (s.head h).bound = some l) : (a.head h).bound = some l := by
  rw [x.head, bound]

theorem linked (x : TurretStart s h l a) (bound : (s.head h).bound = some l) : a.namesLoaded l = true ∧ a.working ∧ a.Ordered :=
  ⟨(x.bonded.links h l (x.bound bound)).named, x.bonded.working h (by rw [x.bound bound]; rfl),
    x.bonded.ordered (x.bound bound)⟩

theorem same (x : TurretStart s h l a) : a.stationE = s.stationE ∧ a.stationG = s.stationG ∧ a.stationC = s.stationC ∧
    a.stationR = s.stationR := by
  obtain ⟨e, g, c, r, -⟩ := stations_congr x.stations
  exact ⟨e, g, c, r⟩

theorem place (x : TurretStart s h l a) (bound : (s.head h).bound = some l) :
    s.position l.slot + 1 ≤ s.stationR ∧
      ((s.head h).state = .engaged ∨ (s.head h).state = .charging → s.position l.slot + 1 ≤ s.stationC) ∧
      ((s.head h).state = .clamped → s.position l.slot + 1 ≤ s.stationG) := by
  have place := x.bonded.placed h l nofun (x.bound bound)
  obtain ⟨-, g, c, r⟩ := x.same
  rw [x.head] at place
  have high := place.high
  have charge := place.charge trivial
  have clamp := place.clamp trivial
  rw [x.position] at high charge clamp
  exact ⟨r ▸ high, fun e => c ▸ (charge e).1, fun e => g ▸ (clamp e).1⟩

theorem space (x : TurretStart s h l a) : a.lp.queue.length < 48 := by
  have room := x.room
  unfold State.arrivalCommands at room
  split at room <;> omega

end TurretStart

/-- What stands at a record, at a head and in its commands after one command that found room. -/
theorem TurretEnd.commanded {s u t : State} {h : Fin 24} {k : Fin 64} {r : Record} {c : HeadContext} {q : HeadCommand}
    (x : TurretEnd h k u t) (result : u = queueCommand q ((s.setRecord k r).setHead h c)) (own : q.head = h)
    (room : s.lp.queue.length < 48) : t.record k = r ∧ t.head h = c ∧ q ∈ t.lp.queue := by
  obtain ⟨record, head, mem⟩ := queueCommand_leaves (s := (s.setRecord k r).setHead h c) q room
  refine ⟨x.record.trans ?_, x.head.trans ?_, x.mem own ?_⟩
  · rw [result, record, setHead_record, record_setRecord_self]
  · rw [result, head, head_setHead_self]
  · rw [result]; exact mem

/-- The same, for a command that joins with its record as it was. -/
theorem TurretEnd.crimped {s u t : State} {h : Fin 24} {k : Fin 64} {c : HeadContext} {q : HeadCommand}
    (x : TurretEnd h k u t) (result : u = queueCommand q (s.setHead h c)) (own : q.head = h)
    (room : s.lp.queue.length < 48) : t.record k = s.record k ∧ t.head h = c ∧ q ∈ t.lp.queue := by
  rw [← setRecord_self s k] at result
  exact x.commanded result own room

/-- Settles O20: the arrival of the bound record, by the state of its head. -/
theorem arrivalsUpToCrimp : Obligations.ArrivalsUpToCrimp := by
  intro ws f h l s read forward awake follows legal short bound
  obtain ⟨a, t, run, start, ends⟩ := exec_boundArrival read forward awake follows legal short bound
  refine ⟨t, run, ?_⟩
  rintro r c p rfl rfl rfl
  obtain ⟨named, work, ordered⟩ := start.linked bound
  obtain ⟨-, g, c, r⟩ := start.same
  obtain ⟨-, upToC, upToG⟩ := start.place bound
  have boundThere := start.bound bound
  have chargeBelow := ordered.charge
  have releaseBelow := ordered.release
  have word := start.words (s.record l.slot).recipe
  have stays (result : turretArrival h l.slot (s.position l.slot + 1) a = a) :
      t.record l.slot = s.record l.slot ∧ t.head h = s.head h := by
    rw [result] at ends
    exact ⟨ends.record.trans start.record, ends.head.trans start.head⟩
  refine ⟨fun state => ?_, fun state => ?_, fun state => ?_⟩
  · have below := upToC (.inl state)
    have arrives := clampWait_arrives boundThere named (start.head ▸ state) (p := s.position l.slot + 1) (by omega) l.slot rfl
    rw [start.record, start.head, word, c] at arrives
    refine ⟨fun early away => ?_, fun late => ?_⟩
    · rw [if_neg (by omega)] at arrives
      rw [arrives] at ends
      exact ⟨ends.record.trans start.record, ends.head.trans (head_setHead_self ..)⟩
    · rw [if_pos (by omega)] at arrives
      exact ends.commanded arrives rfl start.space
  · have below := upToG state
    have arrives := clamped_arrives boundThere named work (start.head ▸ state) (p := s.position l.slot + 1) (by omega) l.slot
    obtain ⟨dose, factor⟩ := trim_congr start.words start.trim start.rows (s.record l.slot)
    rw [start.record, start.head, start.position, dose, factor] at arrives
    refine ⟨fun early => ?_, fun late => ?_⟩
    · rw [if_neg (fun gas => by have := (atGas_iff.mp gas).1; omega)] at arrives
      exact stays arrives
    · rw [if_pos (atGas_iff.mpr (by omega))] at arrives
      exact ends.commanded arrives rfl start.space
  · have below := upToC (.inr state)
    have arrives : turretArrival h l.slot (s.position l.slot + 1) a = if s.position l.slot + 1 = a.stationC then
        endCharge h (addCauseTo (a.tagOf l.slot) .shortGas a) else a := by
      unfold turretArrival
      rw [if_neg (by omega), start.head, state]
    refine ⟨fun away => ?_, fun here => ?_⟩
    · rw [if_neg (by omega)] at arrives
      exact stays arrives
    · rw [if_pos (by omega)] at arrives
      have tag : a.tagOf l.slot = l := by rw [State.tagOf, (namesLoaded_iff.mp named).2]
      have caused : addCauseTo l .shortGas a = a.setRecord l.slot { a.record l.slot with
          causes := addCause .shortGas (a.record l.slot).causes } := writeLoaded_named named _
      have room := start.room
      rw [State.arrivalCommands, start.position, if_pos (by omega)] at room
      rw [tag, caused, start.record] at arrives
      obtain ⟨record, head, closes, crimps⟩ := endCharge_atC (l := l) (s := a.setRecord l.slot { s.record l.slot with
        causes := addCause .shortGas (s.record l.slot).causes }) boundThere
        (by show a.stationC ≤ a.position l.slot; rw [start.position]; omega)
        (by show a.position l.slot < a.stationR; rw [start.position]; omega) work room
      rw [record_setRecord_self] at crimps
      have crimps : (⟨h, .crimp, a.recipeWord (s.record l.slot).recipe 15⟩ : HeadCommand) ∈ _ := crimps
      rw [word] at crimps
      rw [arrives] at ends
      refine ⟨ends.record.trans ((record _).trans (record_setRecord_self ..)), ends.head.trans (head.trans ?_),
        ends.mem rfl closes, ends.mem rfl crimps⟩
      rw [setRecord_head, start.head]

/-- Settles O21: the crimp of a SETTLING head, and the release. -/
theorem crimpAndRelease : Obligations.CrimpAndRelease := by
  intro ws f h l s read forward awake follows legal short bound states
  obtain ⟨a, t, run, start, ends⟩ := exec_boundArrival read forward awake follows legal short bound
  refine ⟨t, run, ?_⟩
  rintro r c p rfl rfl rfl
  obtain ⟨named, work, ordered⟩ := start.linked bound
  obtain ⟨-, g, c, r⟩ := start.same
  have boundThere := start.bound bound
  have word := start.words (s.record l.slot).recipe
  have stays (result : turretArrival h l.slot (s.position l.slot + 1) a = a) :
      t.record l.slot = s.record l.slot ∧ t.head h = s.head h := by
    rw [result] at ends
    exact ⟨ends.record.trans start.record, ends.head.trans start.head⟩
  have settles (below : s.position l.slot + 1 < s.stationR) (state : (s.head h).state = .settling) :
      turretArrival h l.slot (s.position l.slot + 1) a = sendCrimp h a := by
    unfold turretArrival
    rw [if_neg (by omega), start.head, state]
  refine ⟨fun below state there => ?_, fun below other => ?_, fun last => ?_⟩
  · have arrives := sendCrimp_ready boundThere (start.head ▸ state) (by rw [start.position]; omega)
      (by rw [start.position]; omega) work
    rw [← settles below state, start.record, word, leaveTo, start.head] at arrives
    obtain ⟨record, head, crimps⟩ := ends.crimped arrives rfl start.space
    exact ⟨record.trans start.record, head, crimps⟩
  · refine stays ?_
    rcases states with state | state | state
    · rw [settles below state]
      refine sendCrimp_early fun m link => ?_
      rw [boundThere] at link
      cases link
      rw [start.position]
      by_contra there
      exact other ⟨state, by omega⟩
    · unfold turretArrival
      rw [if_neg (by omega), start.head, state]
    · unfold turretArrival
      rw [if_neg (by omega), start.head, state]
  · have arrives := release_arrives boundThere named (p := s.position l.slot + 1) (by omega) l.slot rfl
    rw [start.record, start.head] at arrives
    obtain ⟨record, head, releases⟩ := ends.commanded arrives rfl start.space
    refine ⟨record.trans ?_, head, releases⟩
    rcases states with state | state | state <;> rw [state] <;> rfl

/-! ### The engagement attempt (R40, R41) -/

namespace ForwardRun
variable {φ : Fin 24} {s m t : State} {k : Fin 64}

theorem head (x : ForwardRun φ s m t) (h : Fin 24) : m.head h = s.head h := by simp only [State.head, x.hu]

theorem working (x : ForwardRun φ s m t) : m.working ↔ s.working := by simp only [State.working, x.mode]

/-- The arrival of a record that has come to E is the engagement attempt, and no arrival comes before it. -/
theorem atE (x : ForwardRun φ s m t) (loaded : (s.record k).state = .loaded) (here : s.position k + 1 = s.stationE) :
    arrivalsBelow φ m (m.stationE + 1) = engagementArrival φ k m := by
  obtain ⟨record, position⟩ := x.loaded k loaded
  have E := (stations_congr x.stations).1
  have ordered := x.start.ordered
  have := ordered.gas
  have := ordered.charge
  have := ordered.release
  have slot : m.slotAt m.stationE = k := by
    rw [E, ← here, ← position, slotAt_position]
  rw [arrivalsBelow_in ⟨Nat.le_refl _, by omega⟩, arrivalsBelow_first (Nat.le_refl _),
    forwardArrival_atE (by rw [slot, record]; exact loaded) rfl, slot]

/-- What the arrivals above E, the gate and the report leave of a record that has come to E. -/
theorem pastE_record (x : ForwardRun φ s m t) (loaded : (s.record k).state = .loaded) (here : s.position k + 1 = s.stationE) :
    t.record k = (engagementArrival φ k m).record k := by
  obtain ⟨record, position⟩ := x.loaded k loaded
  obtain ⟨E, -, -, -, J⟩ := stations_congr x.stations
  have ordered := x.start.ordered
  have := ordered.gas
  have := ordered.charge
  have := ordered.release
  have := ordered.afterRelease
  have := ordered.crimped
  have := ordered.gate
  have := ordered.last
  rw [x.recordAfter k (by omega), ← arrivalsBelow_all,
    x.start.record_between φ (a := m.stationE + 1) (by omega) (Nat.le_refl _) (fun p from_a _ => by omega),
    x.atE loaded here]

/-- The same of a head bound to no record above E. -/
theorem pastE_head (x : ForwardRun φ s m t) (loaded : (s.record k).state = .loaded) (here : s.position k + 1 = s.stationE)
    {h : Fin 24} (away : ∀ l, ((engagementArrival φ k m).head h).bound = some l → l.slot = k) :
    t.head h = (engagementArrival φ k m).head h ∧ t.queuedFor h = (engagementArrival φ k m).queuedFor h := by
  obtain ⟨record, position⟩ := x.loaded k loaded
  have E := (stations_congr x.stations).1
  have := position_lt m k
  obtain ⟨head, queue⟩ := x.start.head_between φ (a := m.stationE + 1) (n := 64) (by omega) (Nat.le_refl _) (h := h)
    (fun p l from_a _ link => by
      rw [x.atE loaded here] at link
      rw [away l link]
      omega) (.inl (Nat.lt_succ_self _))
  rw [x.atE loaded here] at head queue
  rw [State.head, State.queuedFor, x.huAfter, x.queueAfter]
  exact ⟨head, queue⟩

theorem pastE_engage (x : ForwardRun φ s m t) (loaded : (s.record k).state = .loaded) (here : s.position k + 1 = s.stationE)
    {c : HeadCommand} (engage : c.kind = .engage) (mem : c ∈ t.lp.queue) : c ∈ (engagementArrival φ k m).lp.queue := by
  obtain ⟨record, position⟩ := x.loaded k loaded
  have E := (stations_congr x.stations).1
  have := position_lt m k
  rw [x.queueAfter, ← arrivalsBelow_all] at mem
  have before := x.start.engage_between φ (a := m.stationE + 1) (n := 64) (by omega) (Nat.le_refl _) (Nat.lt_succ_self _)
    engage mem
  rwa [x.atE loaded here] at before

/-- The attempt that leaves the heads and the queue. -/
theorem pastE_quiet (x : ForwardRun φ s m t) (loaded : (s.record k).state = .loaded) (here : s.position k + 1 = s.stationE)
    (heads : ∀ h, (engagementArrival φ k m).head h = m.head h)
    (queue : (engagementArrival φ k m).lp.queue = m.lp.queue) :
    (∀ h, (s.head h).bound = none → t.head h = s.head h) ∧
      ∀ c : HeadCommand, c.kind = .engage → c ∈ t.lp.queue → c ∈ s.lp.queue := by
  refine ⟨fun h free => ?_, fun c engage mem => ?_⟩
  · rw [(x.pastE_head loaded here (h := h) fun l link => ?_).1, heads, x.head]
    rw [heads, x.head, free] at link
    cases link
  · have before := x.pastE_engage loaded here engage mem
    rwa [queue, x.queue] at before

/-- An unbound record elsewhere is left by every arrival. -/
theorem unbound_record (x : ForwardRun φ s m t) (loaded : (s.record k).state = .loaded)
    (away : s.position k + 1 ≠ s.stationE) (short : s.position k + 1 ≠ s.stationJ) (unbound : (s.record k).bound = false) :
    t.record k = s.record k := by
  obtain ⟨record, position⟩ := x.loaded k loaded
  have E := (stations_congr x.stations).1
  have track := position_lt m k
  have before := x.start.record_between φ (Nat.zero_le (m.position k)) track.le (k := k) fun p _ below => below.ne'
  have here : (arrivalsBelow φ m (m.position k + 1)).record k = (arrivalsBelow φ m (m.position k)).record k := by
    by_cases turret : m.stationE ≤ m.position k ∧ m.position k ≤ m.stationR
    · have quiet := arrivalsBelow_quiet φ m (m.position k)
      have there := (stations_congr quiet.stations).1
      have slot : (arrivalsBelow φ m (m.position k)).slotAt (m.position k) = k := by rw [quiet.slotAt, slotAt_position]
      have first : (arrivalsBelow φ m 0).record k = m.record k := rfl
      rw [arrivalsBelow_in turret, forwardArrival_unbound (by omega) (by rw [slot, before, first, record]; exact unbound)]
    · rw [arrivalsBelow_out turret]
  have after := x.start.record_between φ (a := m.position k + 1) (n := 64) (by omega) (Nat.le_refl _) (k := k)
    fun p from_a _ => by omega
  rw [x.recordAfter k (by omega), ← arrivalsBelow_all, after, here, before]
  exact record

end ForwardRun

/-- Settles O19: the attempt comes first of all arrivals, and the others touch neither its record nor its head. -/
theorem engagementAtE : Obligations.EngagementAtE := by
  refine ⟨fun ws f k s read forward awake working follows legal short loaded here fresh clean => ?_,
    fun ws f k s read forward awake follows legal short loaded => ?_⟩
  · obtain ⟨m, t, run, x⟩ := exec_forwardRun read forward awake follows legal short (legal.joined.ordered working)
    obtain ⟨record, -⟩ := x.loaded k loaded
    have work := x.working.mpr working
    have E := (stations_congr x.stations).1
    refine ⟨t, run, fun idle => ?_, fun busy => ?_⟩
    · have enabled := legal.joined.heads.idle f.phase idle
      have binds := engagementArrival_binds (φ := f.phase) work (record ▸ fresh) (record ▸ clean)
        (by rw [x.head]; exact idle) (by rw [x.head]; exact enabled)
        (by have := x.start.room; omega)
      have tag : m.tagOf k = s.tagOf k := by rw [State.tagOf, State.tagOf, record]
      rw [record, x.head, tag] at binds
      have head : (engagementArrival f.phase k m).head f.phase = { s.head f.phase with
          state := .engaged, bound := some (s.tagOf k), trailing := none, clampWait := 0 } := by
        rw [binds]
        exact head_setHead_self ..
      obtain ⟨headAfter, queueAfter⟩ := x.pastE_head loaded here (h := f.phase) fun l link => by
        rw [head] at link
        cases link
        rfl
      refine ⟨?_, headAfter.trans head, ?_⟩
      · rw [x.pastE_record loaded here, binds]
        exact record_setRecord_self ..
      · have mem : (⟨f.phase, .engage, 0⟩ : HeadCommand) ∈ (engagementArrival f.phase k m).queuedFor f.phase := by
          rw [mem_queuedFor, binds]
          exact ⟨List.mem_append_right _ (List.mem_singleton.mpr rfl), rfl⟩
        rw [← queueAfter] at mem
        exact (mem_queuedFor.mp mem).1
    · have noHead := engagementArrival_noHead (φ := f.phase) work (record ▸ loaded) (record ▸ fresh) (record ▸ clean)
        (by rw [x.head]; exact busy)
      obtain ⟨heads, engages⟩ := x.pastE_quiet loaded here (fun h => by rw [noHead]; rfl) (by rw [noHead]; rfl)
      refine ⟨?_, heads f.phase, engages _ rfl⟩
      rw [x.pastE_record loaded here, noHead, record_setRecord_self, record]
      rfl
  · have ordered := legal.joined.accounted.ledger.ordered_loaded loaded
    obtain ⟨m, t, run, x⟩ := exec_forwardRun read forward awake follows legal short ordered
    obtain ⟨record, -⟩ := x.loaded k loaded
    refine ⟨t, run, fun here passes => ?_, fun here trip fresh clean => ?_, fun away short => x.unbound_record loaded away short⟩
    · have passes := engagementArrival_passes (φ := f.phase) (s := m) (k := k) (record ▸ passes)
      obtain ⟨heads, engages⟩ := x.pastE_quiet loaded here (fun h => by rw [passes]) (by rw [passes])
      exact ⟨by rw [x.pastE_record loaded here, passes, record], heads f.phase, fun h => engages ⟨h, .engage, 0⟩ rfl⟩
    · have resting : ¬ s.working := by simp [State.working, trip]
      have attempts := engagementArrival_resting (φ := f.phase) (s := m) (k := k) (fun w => resting (x.working.mp w))
        (record ▸ fresh) (record ▸ clean)
      obtain ⟨heads, -⟩ := x.pastE_quiet loaded here (fun h => by rw [attempts]; rfl) (by rw [attempts]; rfl)
      refine ⟨?_, ?_⟩
      · rw [x.pastE_record loaded here, attempts, record_setRecord_self, record]
        rfl
      · have same : t.hu.heads = s.hu.heads :=
          Vector.ext fun i lt => heads ⟨i, lt⟩ (legal.bonded.free_of_resting resting ⟨i, lt⟩)
        have hu : t.hu = { s.hu with heads := t.hu.heads } := by
          rw [x.huAfter, ← x.hu, ← arrivalsBelow_all]
          exact congrArg State.hu (x.start.below f.phase (Nat.le_refl 64)).1
        rw [hu, same]

end Sys2Proof.Machine
end

-- ==== Proofs: the turret check, and the end of a drain ====
section
/-! PROOF. The mode, the trip cause and the alerts through an INDEX frame: the turret check and the vent flag (R133, R135, R146),
the advance, which can only trip by a full queue (R136), and the end of a drain (R145). -/

namespace Sys2Proof.Machine

/-! ### Alerts and the adopted frame through an advance -/

/-- Alerts are only raised, and none that names a trip cause but that of a full queue; the adopted count and phase stay. -/
structure Warned (s t : State) : Prop where
  raised : ∀ a, hasAlert a s.nc.alerts = true → hasAlert a t.nc.alerts = true
  others : ∀ c : TripCause, c ≠ .queueFull → hasAlert c.alert t.nc.alerts = hasAlert c.alert s.nc.alerts
  link : t.lp.lastCount = s.lp.lastCount ∧ t.lp.lastPhase = s.lp.lastPhase ∧ t.lp.unchecked = s.lp.unchecked

namespace Warned
variable {s t u : State}

theorem trans (x : Warned s t) (y : Warned t u) : Warned s u where
  raised a on := y.raised a (x.raised a on)
  others c other := (y.others c other).trans (x.others c other)
  link := by
    obtain ⟨count, phase, unchecked⟩ := y.link
    rw [count, phase, unchecked]
    exact x.link

theorem of_same (alerts : t.nc.alerts = s.nc.alerts) (lp : t.lp = s.lp) : Warned s t :=
  ⟨fun _ on => alerts ▸ on, fun _ _ => by rw [alerts], by rw [lp]; exact ⟨rfl, rfl, rfl⟩⟩

theorem quiet (q : Quiet onlyFull s t) : Warned s t where
  raised := q.raised
  others c other := q.others c other
  link := by
    obtain ⟨-, -, -, -, -, -, count, phase, unchecked, -⟩ := q.parts
    exact ⟨count, phase, unchecked⟩

/-- An alert that names no trip cause. -/
theorem alert {a : AlertKind} (other : ∀ c : TripCause, c.alert ≠ a) (alerts : t.nc.alerts = addAlert a s.nc.alerts)
    (lp : t.lp = s.lp) : Warned s t where
  raised b on := by rw [alerts, hasAlert_addAlert, on]; rfl
  others c _ := by simp [alerts, hasAlert_addAlert, other c]
  link := by rw [lp]; exact ⟨rfl, rfl, rfl⟩

theorem rearmIf (q : Option SampleRequest) (s : State) : Warned s (rearmIf q s) := by
  cases q with
  | none => exact of_same rfl rfl
  | some q =>
    show Warned s (rearm q s)
    rcases rearm_cases q s with ⟨-, e⟩ | ⟨-, e⟩
    · rw [e]; exact of_same rfl rfl
    · rw [e]; exact alert (a := .sampleLost) (fun c => by cases c <;> decide) rfl rfl

theorem entered (φ : Fin 24) (s : State) : Warned s (entered φ s) := by
  rcases admission_cases φ (originForward (exitAtX s)) with ⟨-, e⟩ | ⟨a, -, decision, -, e⟩ | ⟨c, p, -, -, -, e⟩
  · rw [Machine.entered, e]
    exact of_same rfl rfl
  · rw [Machine.entered, e]
    refine alert (a := a) (fun c => ?_) rfl rfl
    unfold State.feedDecision at decision
    split at decision
    · cases decision
    · split at decision
      · cases decision; cases c <;> decide
      · split at decision
        · cases decision; cases c <;> decide
        · split at decision
          · cases decision
          · split at decision <;> cases decision
  · rw [Machine.entered, e]
    exact ⟨fun _ on => on, fun _ _ => rfl, rfl, rfl, rfl⟩

theorem gateArrival (s : State) : Warned s (gateArrival s) := by
  rcases gateArrival_cases s with ⟨same, -⟩ | ⟨k, -, -, given⟩
  · rw [same]; exact of_same rfl rfl
  · rw [given, giveVerdict_eq]
    exact (of_same (by rw [lowerInUse_nc]; rfl) (by rw [lowerInUse_lp]; rfl)).trans (rearmIf _ _)

theorem backOut (s : State) : Warned s (backOut s) := by
  unfold Machine.backOut
  dsimp only
  split
  · exact of_same rfl rfl
  · exact of_same rfl rfl
  · exact (of_same (by rw [lowerInUse_nc]; rfl) (by rw [lowerInUse_lp]; rfl)).trans (rearmIf _ _)

end Warned

/-! ### The advance -/

/-- The state of an advance before TU's report. -/
def advanced (x : Advance) (φ : Fin 24) (s : State) : State :=
  match x with
  | .forward => (forwardAdvance φ s).2
  | .reverse => (reverseAdvance s).2
  | .dwell => s

theorem advanced_forward (φ : Fin 24) (s : State) :
    advanced .forward φ s = gateArrival (forwardArrivals φ (entered φ s)) := forwardAdvance_eq φ s

theorem advanced_reverse (φ : Fin 24) (s : State) :
    advanced .reverse φ s = jogBackArrival (originReverse (backOut s)) := rfl

theorem takeAdvance_state (x : Advance) (φ : Fin 24) (s : State) :
    (takeAdvance x φ s).2 = endDrain (reportRing (advanced x φ s)) := by
  cases x with
  | forward => exact State.Accounted.takeAdvance_forward φ s
  | reverse => exact State.Accounted.takeAdvance_reverse φ s
  | dwell => exact State.Accounted.takeAdvance_dwell φ s

section
variable (x : Advance) (φ : Fin 24) (s : State)

theorem advanced_warned : Warned s (advanced x φ s) := by
  cases x with
  | forward =>
    rw [advanced_forward]
    exact ((Warned.entered φ s).trans (.quiet (Quiet.forwardArrivals φ _))).trans (.gateArrival _)
  | reverse =>
    rw [advanced_reverse]
    have moved : Warned (backOut s) (originReverse (backOut s)) := .of_same rfl rfl
    exact ((Warned.backOut s).trans moved).trans (.quiet (Quiet.jogBackArrival _))
  | dwell => exact .of_same rfl rfl

theorem rearmIf_tripCause (q : Option SampleRequest) : (rearmIf q s).nc.tripCause = s.nc.tripCause := by rw [rearmIf_eq]

theorem gateArrival_mode : (gateArrival s).nc.mode = s.nc.mode ∧ (gateArrival s).nc.tripCause = s.nc.tripCause := by
  rcases gateArrival_cases s with ⟨same, -⟩ | ⟨k, -, -, given⟩
  · rw [same]; exact ⟨rfl, rfl⟩
  · rw [given, giveVerdict_eq, rearmIf_mode, rearmIf_tripCause, lowerInUse_nc]
    exact ⟨rfl, rfl⟩

theorem backOut_mode : (backOut s).nc.mode = s.nc.mode ∧ (backOut s).nc.tripCause = s.nc.tripCause := by
  unfold backOut
  dsimp only
  split
  · exact ⟨rfl, rfl⟩
  · exact ⟨rfl, rfl⟩
  · rw [rearmIf_mode, rearmIf_tripCause, lowerInUse_nc]
    exact ⟨rfl, rfl⟩

/-- The advance leaves the mode, or trips by a full queue. -/
theorem advanced_mode : ((advanced x φ s).nc.mode = s.nc.mode ∧ (advanced x φ s).nc.tripCause = s.nc.tripCause) ∨
    (s.working ∧ (advanced x φ s).nc.mode = .trip ∧ (advanced x φ s).nc.tripCause = some .queueFull) := by
  have quiet {u v : State} (q : Quiet onlyFull u v) (mode : u.nc.mode = s.nc.mode) (cause : u.nc.tripCause = s.nc.tripCause) :
      (v.nc.mode = s.nc.mode ∧ v.nc.tripCause = s.nc.tripCause) ∨
        (s.working ∧ v.nc.mode = .trip ∧ v.nc.tripCause = some .queueFull) := by
    rcases q.mode with ⟨same, still⟩ | ⟨work, trip, ⟨c, full, found⟩, -⟩
    · exact .inl ⟨same.trans mode, still.trans cause⟩
    · exact .inr ⟨by simpa only [State.working, mode] using work, trip, by rw [found, full]⟩
  cases x with
  | forward =>
    obtain ⟨mode, cause⟩ := gateArrival_mode (forwardArrivals φ (entered φ s))
    rw [advanced_forward, mode, cause]
    exact quiet (Quiet.forwardArrivals φ (entered φ s)) (entered_mode φ s).1 (entered_mode φ s).2
  | reverse =>
    rw [advanced_reverse]
    exact quiet (Quiet.jogBackArrival (originReverse (backOut s))) (backOut_mode s).1 (backOut_mode s).2
  | dwell => exact .inl ⟨rfl, rfl⟩

/-- With the end of a drain, the mode stays, a drain ends, or a full queue trips the node. -/
theorem takeAdvance_mode :
    ((takeAdvance x φ s).2.nc.tripCause = s.nc.tripCause ∧
      ((takeAdvance x φ s).2.nc.mode = s.nc.mode ∨ (s.nc.mode = .drain ∧ (takeAdvance x φ s).2.nc.mode = .standby))) ∨
    (s.working ∧ (takeAdvance x φ s).2.nc.mode = .trip ∧ (takeAdvance x φ s).2.nc.tripCause = some .queueFull) := by
  rw [takeAdvance_state]
  have turned := advanced_mode x φ s
  generalize advanced x φ s = u at turned
  rcases endDrain_cases (reportRing u) with ⟨same, -⟩ | ⟨drain, -, ends⟩
  · rw [same]
    exact turned.imp_left fun ⟨mode, cause⟩ => ⟨cause, .inl mode⟩
  · rw [ends]
    refine .inl ?_
    rcases turned with ⟨mode, cause⟩ | ⟨-, trip, -⟩
    · exact ⟨cause, .inr ⟨mode.symm.trans drain, rfl⟩⟩
    · exact nomatch drain.symm.trans trip

theorem takeAdvance_warned : Warned s (takeAdvance x φ s).2 := by
  rw [takeAdvance_state]
  obtain ⟨-, lp, -, -, alerts, -⟩ := drained_parts (advanced x φ s)
  exact (advanced_warned x φ s).trans (.of_same alerts lp)

end

/-! ### The jog-back -/

/-- The jog-back finds the record that came to E − 1, or nothing (R47). -/
theorem State.Bonded.jogBack_cases {full : Prop} {s : State} (b : s.Bonded full 1 64 none) :
    (Machine.jogBackArrival s = s ∧ ∀ h l, (s.head h).bound = some l → s.position l.slot + 1 ≠ s.stationE) ∨
      ∃ h l, (s.head h).bound = some l ∧ s.position l.slot + 1 = s.stationE ∧
        Machine.jogBackArrival s = Machine.abortHead h .jogBack s := by
  unfold Machine.jogBackArrival
  dsimp only
  by_cases table : 1 ≤ s.stationE ∧ s.stationE ≤ 64
  · have slot : s.position (s.slotAt (s.stationE - 1)) = s.stationE - 1 := position_slotAt s (by omega)
    have none_of (unbound : (s.record (s.slotAt (s.stationE - 1))).bound = false) (h : Fin 24) (l : Link)
        (link : (s.head h).bound = some l) : s.position l.slot + 1 ≠ s.stationE := fun there => by
      have on := (b.links h l link).bound
      have own : l.slot = s.slotAt (s.stationE - 1) := State.Bonded.slot_of_position (s := s) (by omega)
      rw [own, unbound] at on
      cases on
    rw [if_pos table]
    by_cases loaded : (s.record (s.slotAt (s.stationE - 1))).state = .loaded
    · rw [if_pos loaded]
      cases bound : (s.record (s.slotAt (s.stationE - 1))).boundHead with
      | none => exact .inl ⟨rfl, none_of (b.unbound_of bound)⟩
      | some h =>
        refine .inr ⟨h, _, b.link_of bound, ?_, rfl⟩
        show s.position (s.slotAt (s.stationE - 1)) + 1 = _
        omega
    · rw [if_neg loaded]
      exact .inl ⟨rfl, none_of (b.unbound_unloaded loaded)⟩
  · rw [if_neg table]
    refine .inl ⟨rfl, fun h l link => ?_⟩
    have o := b.ordered link
    have := o.first
    have := o.gas
    have := o.charge
    have := o.release
    have := o.afterRelease
    have := o.crimped
    have := o.gate
    have := o.last
    omega

/-- With room for the commands of an advance, the advance leaves the mode. -/
theorem advanced_room {full : Prop} {s : State} (a : s.Accounted) (b : s.Bonded full 0 64 none) (ordered : s.Ordered)
    (room : s.lp.queue.length ≤ 23) (x : Advance) (φ : Fin 24) : (advanced x φ s).nc.mode = s.nc.mode := by
  cases x with
  | forward =>
    have start := State.Roomy.of_entered a b ordered room φ
    have nc := congrArg State.nc (start.below φ (Nat.le_refl 64)).1
    rw [arrivalsBelow_all] at nc
    have nc : (forwardArrivals φ (entered φ s)).nc = (entered φ s).nc := nc
    rw [advanced_forward, (gateArrival_mode _).1, nc, (entered_mode φ s).1]
  | reverse =>
    rw [advanced_reverse]
    have back := (backOut_mode s).1
    have queue : (originReverse (backOut s)).lp.queue = s.lp.queue :=
      congrArg LinkPort.queue (State.Bonded.backOut_heads s).2.1
    have moved : (originReverse (backOut s)).Bonded full 1 64 none := b.backOut.originReverse
    rcases moved.jogBack_cases with ⟨same, -⟩ | ⟨h, l, bound, -, aborts⟩
    · rw [same]
      exact back
    · have slot (m : Link) (link : ((originReverse (backOut s)).head h).bound = some m) : m.slot = l.slot := by
        rw [bound] at link
        cases link
        rfl
      rw [aborts, (abortHead_footprint slot .jogBack (by rw [queue]; omega)).nc]
      exact back
  | dwell => rfl

/-! ### The turret check and the vent flag -/

/-- An INDEX frame's state before its advance (R131, R133, R135). -/
def checked (f : IndexFrame) (s : State) : State := takeVent f.vent (turretCheck f (restartGap s))

theorem exec_checked {ws : List Word} {f : IndexFrame} {s : State} (read : classify ws = .index f)
    (awake : s.bypassed = false) : exec (.indexFrame ws) s = .next (putTransit
      (.accepted (indexLead ws (takeAdvance f.advance f.phase (checked f s)).1))
      (takeAdvance f.advance f.phase (checked f s)).2) := exec_indexFrame read awake

theorem checked_follows {f : IndexFrame} {s : State} (follows : s.follows f) :
    checked f s = adopt f (restartGap s) := by
  obtain ⟨noVent, found⟩ := follows
  rw [checked, turretCheck_match (s := restartGap s) found, takeVent, noVent]
  rfl

theorem tripEntry_nc (cause : TripCause) (s : State) : (tripEntry cause s).nc = { s.nc with
    mode := .trip, tripCause := some cause, alerts := addAlert .trip s.nc.alerts } := by
  rw [tripEntry_closed, tripClosed_nc, (tripHeads_nc_lp _).1]
  rfl

section
variable {s : State} {c : TripCause}

theorem requestTrip_nc_working (work : s.working) : (requestTrip c s).nc = { s.nc with
    mode := .trip, tripCause := some c, alerts := addAlert .trip s.nc.alerts } := by
  rw [requestTrip_working work, tripEntry_nc]

theorem requestTrip_nc_trip (trip : s.nc.mode = .trip) :
    (requestTrip c s).nc = { s.nc with alerts := addAlert c.alert s.nc.alerts } := by
  rw [requestTrip_trip trip]
  rfl

/-- A node that rests keeps its mode and trip cause. -/
theorem requestTrip_resting (rest : ¬ s.working) :
    (requestTrip c s).nc.mode = s.nc.mode ∧ (requestTrip c s).nc.tripCause = s.nc.tripCause :=
  (Quiet.requestTrip (C := fun _ => True) trivial s).mode_resting rest

/-- A trip cause raises no alert of another, and no alert falls. -/
theorem requestTrip_others {d : TripCause} (other : d ≠ c) :
    hasAlert d.alert (requestTrip c s).nc.alerts = hasAlert d.alert s.nc.alerts :=
  (Quiet.requestTrip (C := fun x => x = c) rfl s).others d other

theorem requestTrip_raised {a : AlertKind} (on : hasAlert a s.nc.alerts = true) :
    hasAlert a (requestTrip c s).nc.alerts = true :=
  (Quiet.requestTrip (C := fun _ => True) trivial s).raised a on

end

section
variable {f : IndexFrame} {s : State}

/-- A frame whose count and phase are compared and do not match (R133). -/
def State.mismatches (s : State) (f : IndexFrame) : Prop := s.lp.unchecked = false ∧
  (f.count ≠ expectedCount f.advance s.lp.lastCount ∨ f.phase ≠ expectedPhase f.advance s.lp.lastPhase)

theorem follows_iff : s.follows f ↔ f.vent = false ∧ ¬ s.mismatches f := by
  refine and_congr_right fun _ => ?_
  unfold State.mismatches
  cases s.lp.unchecked <;> simp

theorem turretCheck_mismatch (miss : s.mismatches f) : turretCheck f s = adopt f (requestTrip .trackLost s) := by
  refine congrArg (adopt f) (if_pos ⟨miss.1, ?_⟩)
  rw [Bool.eq_false_iff, Ne, turretMatches_iff, Classical.not_and_iff_not_or_not]
  exact miss.2

theorem turretCheck_found (found : ¬ s.mismatches f) : turretCheck f s = adopt f s := by
  refine congrArg (adopt f) (if_neg fun both => found ⟨both.1, ?_⟩)
  have differs := both.2
  rwa [Bool.eq_false_iff, Ne, turretMatches_iff, Classical.not_and_iff_not_or_not] at differs

theorem checked_found (found : ¬ s.mismatches f) :
    checked f s = takeVent f.vent (adopt f (restartGap s)) := by
  rw [checked, turretCheck_found (s := restartGap s) found]

theorem checked_mismatch (miss : s.mismatches f) :
    checked f s = takeVent f.vent (adopt f (requestTrip .trackLost (restartGap s))) := by
  rw [checked, turretCheck_mismatch (s := restartGap s) miss]

theorem checked_link (f : IndexFrame) (s : State) : (checked f s).lp.lastCount = f.count ∧
    (checked f s).lp.lastPhase = f.phase ∧ (checked f s).lp.unchecked = false := by
  obtain ⟨-, -, -, -, -, -, count, phase, unchecked, -⟩ :=
    (Quiet.takeVent (C := fun _ => True) (vent := f.vent) (fun _ => trivial) (turretCheck f (restartGap s))).parts
  exact ⟨count, phase, unchecked⟩

theorem takeVent_set (vent : f.vent = true) (s : State) : takeVent f.vent s = requestTrip .vent s := if_pos vent

theorem takeVent_clear (clear : f.vent = false) (s : State) : takeVent f.vent s = s := by rw [takeVent, clear]; rfl

/-- A node that rests keeps its mode and trip cause through the checks. -/
theorem checked_resting (rest : ¬ s.working) :
    (checked f s).nc.mode = s.nc.mode ∧ (checked f s).nc.tripCause = s.nc.tripCause := by
  have turret : (turretCheck f (restartGap s)).nc.mode = s.nc.mode ∧
      (turretCheck f (restartGap s)).nc.tripCause = s.nc.tripCause := by
    by_cases miss : s.mismatches f
    · rw [turretCheck_mismatch (s := restartGap s) miss]
      exact requestTrip_resting (s := restartGap s) rest
    · rw [turretCheck_found (s := restartGap s) miss]
      exact ⟨rfl, rfl⟩
  obtain ⟨mode, cause⟩ := (Quiet.takeVent (C := fun _ => True) (vent := f.vent) (fun _ => trivial)
    (turretCheck f (restartGap s))).mode_resting (by simpa only [State.working, turret.1] using rest)
  exact ⟨mode.trans turret.1, cause.trans turret.2⟩

/-- A mismatch in RUN or DRAIN: the trip by TRACK_LOST, with VENT raised by a set flag. -/
theorem checked_lost (work : s.working) (miss : s.mismatches f) : (checked f s).nc.mode = .trip ∧
    (checked f s).nc.tripCause = some .trackLost ∧ hasAlert .trip (checked f s).nc.alerts = true ∧
    (f.vent = true → hasAlert .vent (checked f s).nc.alerts = true) := by
  have lost : (adopt f (requestTrip .trackLost (restartGap s))).nc = { s.nc with
      mode := .trip, tripCause := some .trackLost, alerts := addAlert .trip s.nc.alerts } :=
    requestTrip_nc_working (s := restartGap s) work
  have trip : (adopt f (requestTrip .trackLost (restartGap s))).nc.mode = .trip := by rw [lost]
  have alert : hasAlert .trip (addAlert .trip s.nc.alerts) = true := by simp [hasAlert_addAlert]
  rw [checked_mismatch miss]
  by_cases vent : f.vent = true
  · rw [takeVent_set vent, requestTrip_nc_trip trip, lost]
    exact ⟨rfl, rfl, by simp [hasAlert_addAlert], fun _ => by simp [hasAlert_addAlert, TripCause.alert]⟩
  · rw [takeVent_clear (by simpa using vent), lost]
    exact ⟨rfl, rfl, alert, fun set => absurd set vent⟩

/-- A mismatch in TRIP raises TRACK_LOST. -/
theorem checked_lostInTrip (trip : s.nc.mode = .trip) (miss : s.mismatches f) :
    hasAlert .trackLost (checked f s).nc.alerts = true := by
  have lost : (adopt f (requestTrip .trackLost (restartGap s))).nc = { s.nc with
      alerts := addAlert .trackLost s.nc.alerts } := requestTrip_nc_trip (s := restartGap s) trip
  have alert : hasAlert .trackLost (adopt f (requestTrip .trackLost (restartGap s))).nc.alerts = true := by
    rw [lost]
    simp [hasAlert_addAlert]
  rw [checked_mismatch miss]
  exact (Quiet.takeVent (C := fun _ => True) (fun _ => trivial) _).raised _ alert

/-- Without a mismatch no TRACK_LOST is found. -/
theorem checked_notLost (found : ¬ s.mismatches f ∨ s.nc.mode = .standby) :
    hasAlert .trackLost (checked f s).nc.alerts = hasAlert .trackLost s.nc.alerts := by
  have turret : (turretCheck f (restartGap s)).nc = s.nc := by
    by_cases miss : s.mismatches f
    · have standby := found.resolve_left fun x => x miss
      have none : requestTrip .trackLost (restartGap s) = restartGap s := by
        simp [requestTrip, standby]
      rw [turretCheck_mismatch (s := restartGap s) miss, none]
      rfl
    · rw [turretCheck_found (s := restartGap s) miss]
      rfl
  exact ((Quiet.takeVent (C := fun x => x = .vent) (fun _ => rfl) (turretCheck f (restartGap s))).others .trackLost
    nofun).trans (by rw [turret]; rfl)

/-- The vent flag in RUN and DRAIN without a mismatch: the trip by VENT. -/
theorem checked_vents (work : s.working) (found : ¬ s.mismatches f) (vent : f.vent = true) :
    (checked f s).nc.mode = .trip ∧ (checked f s).nc.tripCause = some .vent ∧
      hasAlert .trip (checked f s).nc.alerts = true := by
  rw [checked_found found, takeVent_set vent, requestTrip_nc_working (s := adopt f (restartGap s)) work]
  exact ⟨rfl, rfl, by simp [hasAlert_addAlert]⟩

/-- The vent flag in STANDBY and TRIP raises VENT. -/
theorem checked_vented (rest : s.nc.mode = .standby ∨ s.nc.mode = .trip) (vent : f.vent = true) :
    hasAlert .vent (checked f s).nc.alerts = true := by
  have resting : ¬ s.working := by rcases rest with e | e <;> simp [State.working, e]
  have turret : (turretCheck f (restartGap s)).nc.mode = s.nc.mode := by
    by_cases miss : s.mismatches f
    · rw [turretCheck_mismatch (s := restartGap s) miss]
      exact (requestTrip_resting (s := restartGap s) resting).1
    · rw [turretCheck_found (s := restartGap s) miss]
      rfl
  have alert : requestTrip .vent (turretCheck f (restartGap s)) = raiseAlert .vent (turretCheck f (restartGap s)) := by
    rcases rest with standby | trip
    · exact requestTrip_standby (turret.trans standby) nofun
    · exact requestTrip_trip (turret.trans trip) .vent
  rw [checked, takeVent_set vent, alert]
  show hasAlert .vent (addAlert .vent _) = true
  simp [hasAlert_addAlert]

/-- A frame that follows does not trip a node with room for its commands. -/
theorem advanced_follows (q : s.QueueLegal) (work : s.working) (room : s.lp.queue.length ≤ 23) (x : Advance) (φ : Fin 24) :
    (advanced x φ (adopt f (restartGap s))).nc.mode = s.nc.mode :=
  advanced_room (adopted_accounted q.joined.accounted f) (adopted_bonded q.bonded f)
    ((q.joined.ordered work).congr rfl) room x φ

end

/-- Settles O12: the checks by mode, and the advance, whose one trip cause is a full queue. -/
theorem turretCheckByMode : Obligations.TurretCheckByMode := by
  intro ws f s read awake
  obtain ⟨count, phase, unchecked⟩ := checked_link f s
  have turned := takeAdvance_mode f.advance f.phase (checked f s)
  have warned := takeAdvance_warned f.advance f.phase (checked f s)
  have state := takeAdvance_state f.advance f.phase (checked f s)
  have run := exec_checked read awake
  generalize takeAdvance f.advance f.phase (checked f s) = out at run turned warned state
  obtain ⟨sameCount, samePhase, sameUnchecked⟩ := warned.link
  have kept (rest : ¬ (checked f s).working) : out.2.nc.mode = (checked f s).nc.mode ∧
      out.2.nc.tripCause = (checked f s).nc.tripCause := by
    rcases turned with ⟨cause, mode | ⟨drain, -⟩⟩ | ⟨work, -⟩
    · exact ⟨mode, cause⟩
    · exact absurd (.inr drain) rest
    · exact absurd work rest
  have tripped (trip : (checked f s).nc.mode = .trip) : out.2.nc.mode = .trip ∧
      out.2.nc.tripCause = (checked f s).nc.tripCause := by
    obtain ⟨mode, cause⟩ := kept (by simp [State.working, trip])
    exact ⟨mode.trans trip, cause⟩
  have track : hasAlert .trackLost out.2.nc.alerts = hasAlert .trackLost (checked f s).nc.alerts :=
    warned.others .trackLost nofun
  refine ⟨_, run, sameCount.trans count, samePhase.trans phase, sameUnchecked.trans unchecked, fun standby => ?_,
    fun trip => ?_, fun vent rest => warned.raised _ (checked_vented rest vent), fun isChecked differs => ?_, fun found => ?_⟩
  · have rest : ¬ s.working := by simp [State.working, standby]
    obtain ⟨mode, cause⟩ := checked_resting (f := f) rest
    obtain ⟨modeAfter, causeAfter⟩ := kept (by simpa only [State.working, mode] using rest)
    exact ⟨(modeAfter.trans mode).trans standby, causeAfter.trans cause, track.trans (checked_notLost (.inr standby))⟩
  · have rest : ¬ s.working := by simp [State.working, trip]
    obtain ⟨mode, cause⟩ := checked_resting (f := f) rest
    obtain ⟨modeAfter, causeAfter⟩ := kept (by simpa only [State.working, mode] using rest)
    exact ⟨(modeAfter.trans mode).trans trip, causeAfter.trans cause⟩
  · have miss : s.mismatches f := ⟨isChecked, differs⟩
    refine ⟨fun work => ?_, fun trip => warned.raised _ (checked_lostInTrip trip miss)⟩
    obtain ⟨trip, cause, alert, vents⟩ := checked_lost work miss
    obtain ⟨modeAfter, causeAfter⟩ := tripped trip
    exact ⟨modeAfter, causeAfter.trans cause, warned.raised _ alert, fun vent => warned.raised _ (vents vent)⟩
  · have found : ¬ s.mismatches f := by
      unfold State.mismatches
      rcases found with e | ⟨e, e'⟩ <;> simp [*]
    refine ⟨track.trans (checked_notLost (.inl found)), fun work vent => ?_, fun work clear => ?_⟩
    · obtain ⟨trip, cause, alert⟩ := checked_vents work found vent
      obtain ⟨modeAfter, causeAfter⟩ := tripped trip
      exact ⟨modeAfter, causeAfter.trans cause, warned.raised _ alert⟩
    · have adopted := checked_follows (follows_iff.mpr ⟨clear, found⟩)
      rw [adopted] at turned state
      refine ⟨?_, fun legal room => ?_⟩
      · rcases turned with ⟨cause, mode | ⟨-, standby⟩⟩ | ⟨-, trip, cause⟩
        · refine .inl ⟨fun trip => ?_, cause⟩
          have mode : out.2.nc.mode = s.nc.mode := mode
          rcases work with e | e <;> exact nomatch (e.symm.trans (mode.symm.trans trip))
        · exact .inl ⟨fun trip => (nomatch standby.symm.trans trip), cause⟩
        · exact .inr ⟨trip, cause⟩
      · have mode := advanced_follows (f := f) legal work room f.advance f.phase
        show out.2.nc.mode ≠ .trip
        rw [state]
        generalize advanced f.advance f.phase (adopt f (restartGap s)) = u at mode
        rcases endDrain_cases (reportRing u) with ⟨same, -⟩ | ⟨-, -, ends⟩
        · rw [same]
          show u.nc.mode ≠ .trip
          rw [mode]
          rcases work with e | e <;> rw [e] <;> decide
        · rw [ends]
          exact nofun

end Sys2Proof.Machine
end

-- ==== Proofs: the end of a drain, back-out and jog-back ====
section
/-! PROOF. The end of a drain (R145, R116), and the REVERSE advance: the back-out of the record at position 0 and the jog-back of
the bound record that comes to E − 1 (R14, R15, R32, R47). -/

namespace Sys2Proof.Machine

/-! ### The recipe store through an advance -/

theorem backOut_rs (s : State) : (backOut s).rs =
    if (s.record (s.slotAt 0)).state = .loaded then s.rs.lowered (s.record (s.slotAt 0)).recipe else s.rs := by
  unfold backOut
  dsimp only
  split
  next empty => rw [if_neg (by simp [empty])]
  next final => rw [if_neg (by simp [final])]; rfl
  next loaded => rw [if_pos loaded, rearmIf_rs, lowerInUse_eq]; rfl

theorem entered_rs {s : State} (away : s.nc.mode ≠ .run) (φ : Fin 24) : (entered φ s).rs = s.rs := by
  rcases admission_cases φ (originForward (exitAtX s)) with ⟨-, e⟩ | ⟨a, run, -⟩ | ⟨c, p, run, -⟩
  · rw [entered, e]; rfl
  · exact absurd run away
  · exact absurd run away

/-- The recipe store after an advance that leaves the ring empty, in DRAIN. -/
theorem advanced_rs {s : State} (x : Advance) (φ : Fin 24) (away : s.nc.mode ≠ .run)
    (empty : (advanced x φ s).allEmpty = true) : (advanced x φ s).rs =
      if x = .reverse ∧ (s.record (s.slotAt 0)).state = .loaded then s.rs.lowered (s.record (s.slotAt 0)).recipe
      else s.rs := by
  cases x with
  | forward =>
    rw [if_neg (fun both => nomatch both.1)]
    rw [advanced_forward] at empty ⊢
    rcases gateArrival_cases (forwardArrivals φ (entered φ s)) with ⟨same, -⟩ | ⟨k, -, -, given⟩
    · rw [same, (Quiet.forwardArrivals φ _).rs, entered_rs away]
    · have none := (allEmpty_iff _).mp empty k
      rw [given, State.Accounted.giveVerdict_record, if_pos rfl] at none
      cases none
  | reverse =>
    have moved : (originReverse (backOut s)).rs = (backOut s).rs := rfl
    rw [advanced_reverse, (Quiet.jogBackArrival _).rs, moved, backOut_rs]
    exact if_congr (by simp) rfl rfl
  | dwell =>
    rw [if_neg (fun both => nomatch both.1)]
    rfl

/-- The mode and the recipe store at the end of an advance in DRAIN. -/
theorem drained {s : State} (x : Advance) (φ : Fin 24) (drain : s.nc.mode = .drain)
    (kept : (advanced x φ s).nc.mode = .drain) :
    ((advanced x φ s).allEmpty = false → (takeAdvance x φ s).2.nc.mode = .drain) ∧
      ((advanced x φ s).allEmpty = true → (takeAdvance x φ s).2.nc.mode = .standby ∧
        (takeAdvance x φ s).2.rs = (if x = .reverse ∧ (s.record (s.slotAt 0)).state = .loaded
          then s.rs.lowered (s.record (s.slotAt 0)).recipe else s.rs).applyParked (fun _ => true)) := by
  have store := advanced_rs x φ (by rw [drain]; decide)
  rw [takeAdvance_state]
  generalize advanced x φ s = u at kept store
  refine ⟨fun cans => ?_, fun empty => ?_⟩
  · have stays : ¬ ((reportRing u).nc.mode = .drain ∧ (reportRing u).nc.ringEmpty = true) := fun both => by
      have found : u.allEmpty = true := both.2
      rw [cans] at found
      cases found
    rw [endDrain, if_neg stays]
    exact kept
  · have ends : endDrain (reportRing u) = enterStandby (reportRing u) := if_pos ⟨kept, empty⟩
    rw [ends, ← store empty]
    exact ⟨rfl, rfl⟩

/-- A frame that does not follow trips a node in RUN and DRAIN. -/
theorem checked_trips {f : IndexFrame} {s : State} (work : s.working) (astray : ¬ s.follows f) :
    (checked f s).nc.mode = .trip := by
  by_cases miss : s.mismatches f
  · exact (checked_lost work miss).1
  · have vent : f.vent = true := by
      by_contra clear
      exact astray (follows_iff.mpr ⟨by simpa using clear, miss⟩)
    exact (checked_vents work miss vent).1

/-- Settles O16: TU's report is read after the advance, and a trip outlasts it. -/
theorem drainEndsWithRing : Obligations.DrainEndsWithRing := by
  intro ws f s read awake drain
  have run := exec_checked read awake
  have turned := takeAdvance_mode f.advance f.phase (checked f s)
  have ending := drained (s := checked f s) f.advance f.phase
  have report : (takeAdvance f.advance f.phase (checked f s)).2.nc.ringEmpty =
      (advanced f.advance f.phase (checked f s)).allEmpty ∧
      (takeAdvance f.advance f.phase (checked f s)).2.allEmpty = (advanced f.advance f.phase (checked f s)).allEmpty := by
    rw [takeAdvance_state]
    obtain ⟨-, -, tu, -⟩ := drained_parts (advanced f.advance f.phase (checked f s))
    refine ⟨?_, by simp only [State.allEmpty, tu]⟩
    rw [endDrain_report]
  have room (follows : s.follows f) (legal : s.QueueLegal) (short : s.lp.queue.length ≤ 23) :
      (advanced f.advance f.phase (checked f s)).nc.mode = .drain := by
    rw [checked_follows follows, advanced_follows legal (.inr drain) short, drain]
  have adopted (follows : s.follows f) := checked_follows follows
  generalize advanced f.advance f.phase (checked f s) = u at ending report room
  generalize takeAdvance f.advance f.phase (checked f s) = out at run turned ending report
  refine ⟨_, run, report.1.trans report.2.symm, fun follows legal short => ?_, fun astray => ?_⟩
  · obtain ⟨stays, ends⟩ := ending (by rw [adopted follows]; exact drain) (room follows legal short)
    refine ⟨fun cans => stays (report.2.symm.trans cans), fun empty => ?_⟩
    obtain ⟨mode, store⟩ := ends (report.2.symm.trans empty)
    rw [adopted follows] at store
    exact ⟨mode, _, store, rfl⟩
  · have trip := checked_trips (.inr drain) astray
    rcases turned with ⟨-, mode | ⟨was, -⟩⟩ | ⟨-, mode, -⟩
    · exact mode.trans trip
    · exact nomatch (was.symm.trans trip)
    · exact mode

/-! ### The jog-back (R47) -/

/-- An abort that finds room for its ABORT, in full. -/
theorem abortHead_room {s : State} {h : Fin 24} {l : Link} (bound : (s.head h).bound = some l)
    (named : s.namesLoaded l = true) (c : Cause) (room : (s.lp.queue.filter (fun e => e.head != h)).length < 48) :
    abortHead h c s = { (s.setRecord l.slot { s.record l.slot with
      bound := false, causes := addCause c (s.record l.slot).causes }).setHead h { s.head h with
        state := .aborting, bound := none, trailing := some l, timer := none } with
      lp.queue := s.lp.queue.filter (fun e => e.head != h) ++ [⟨h, .abort, 0⟩] } := by
  have kept : s.lp.queue.filter (keepsCommand ⟨h, .abort, 0⟩) = s.lp.queue.filter (fun e => e.head != h) :=
    List.filter_congr fun _ _ => keepsCommand_abort ..
  have space : (s.lp.queue.filter (keepsCommand ⟨h, .abort, 0⟩)).length < 48 := by rw [kept]; exact room
  rw [abortHead, leaveTo_unbind_eq bound named, queueKind, queueCommand_room (by exact space)]
  rw [setHead_lp, setRecord_lp, kept]
  rfl

/-- What stands after the end of an advance. -/
theorem takeAdvance_after (x : Advance) (φ : Fin 24) (s : State) : (takeAdvance x φ s).2.hu = (advanced x φ s).hu ∧
    (takeAdvance x φ s).2.lp = (advanced x φ s).lp ∧ (takeAdvance x φ s).2.tu = (advanced x φ s).tu := by
  obtain ⟨hu, lp, tu, -⟩ := drained_parts (advanced x φ s)
  rw [takeAdvance_state]
  exact ⟨hu, lp, tu⟩

section
variable (s : State)

theorem movedBack_head (h : Fin 24) : (originReverse (backOut s)).head h = s.head h := by
  show (backOut s).head h = _
  rw [State.head, (State.Bonded.backOut_heads s).1]
  rfl

theorem movedBack_hu : (originReverse (backOut s)).hu = s.hu := (State.Bonded.backOut_heads s).1

theorem movedBack_lp : (originReverse (backOut s)).lp = s.lp := (State.Bonded.backOut_heads s).2.1

theorem movedBack_record {k : Fin 64} (away : k ≠ s.slotAt 0) : (originReverse (backOut s)).record k = s.record k := by
  show (backOut s).record k = _
  rw [State.Accounted.backedOut_record, if_neg fun both => away both.1]

theorem movedBack_position {k : Fin 64} (away : k ≠ s.slotAt 0) :
    (originReverse (backOut s)).position k + 1 = s.position k := by
  have other : s.position k ≠ 0 := fun first => away ((eq_slotAt_iff s k (by decide)).mpr first)
  have same : (backOut s).position k = s.position k := by
    simp only [State.position, (State.Accounted.backOut_tu s).1]
  rw [position_originReverse, same, if_neg other]
  omega

theorem movedBack_stationE : (originReverse (backOut s)).stationE = s.stationE :=
  (stations_congr (t := originReverse (backOut s)) (State.Accounted.backOut_tu s).2).1

end

/-- The record of a bound head stands above position 0. -/
theorem State.Bonded.aboveZero {full : Prop} {s : State} (b : s.Bonded full 0 64 none) {h : Fin 24} {l : Link}
    (bound : (s.head h).bound = some l) : l.slot ≠ s.slotAt 0 := fun first => by
  have low := (b.placed h l nofun bound).low
  have first := (eq_slotAt_iff s l.slot (by decide)).mp first
  have := (b.ordered bound).first
  omega

/-- A REVERSE advance, up to its jog-back. -/
theorem exec_reverse {ws : List Word} {f : IndexFrame} {s : State} (read : classify ws = .index f)
    (reverse : f.advance = .reverse) (awake : s.bypassed = false) (follows : s.follows f) :
    ∃ t, exec (.indexFrame ws) s = .next t ∧
      t.hu = (jogBackArrival (originReverse (backOut (adopt f (restartGap s))))).hu ∧
      t.lp.queue = (jogBackArrival (originReverse (backOut (adopt f (restartGap s))))).lp.queue ∧
      ∀ k, t.record k = (jogBackArrival (originReverse (backOut (adopt f (restartGap s))))).record k := by
  have run := exec_checked read awake
  obtain ⟨hu, lp, tu⟩ := takeAdvance_after .reverse f.phase (adopt f (restartGap s))
  rw [checked_follows follows, reverse] at run
  rw [advanced_reverse] at hu lp tu
  generalize takeAdvance .reverse f.phase (adopt f (restartGap s)) = out at run hu lp tu
  refine ⟨_, run, hu, (congrArg LinkPort.queue lp :), fun k => ?_⟩
  show out.2.record k = _
  rw [State.record, tu]
  rfl

/-- Settles O15: the back-out takes the record at position 0, at which no bound record stands, and the jog-back the one at E − 1. -/
theorem jogBackAborts : Obligations.JogBackAborts := by
  refine ⟨fun ws f h l s read reverse awake follows joined bound atE room => ?_,
    fun ws f s read reverse awake follows joined away => ?_⟩
  all_goals
    obtain ⟨t, run, hu, queue, record⟩ := exec_reverse read reverse awake follows
    have b := adopted_bonded joined.bonded f
    have moved := b.backOut.originReverse
    have stays {k : Fin 64} (off : k ≠ s.slotAt 0) := movedBack_record (adopt f (restartGap s)) (k := k) off
    have stands {k : Fin 64} (off : k ≠ s.slotAt 0) := movedBack_position (adopt f (restartGap s)) (k := k) off
    have head (h : Fin 24) := movedBack_head (adopt f (restartGap s)) h
    have heads := movedBack_hu (adopt f (restartGap s))
    have lp := movedBack_lp (adopt f (restartGap s))
    have E := movedBack_stationE (adopt f (restartGap s))
    have above {h : Fin 24} {l : Link} (link : (s.head h).bound = some l) : l.slot ≠ s.slotAt 0 := b.aboveZero (h := h) link
    generalize originReverse (backOut (adopt f (restartGap s))) = u at hu queue record moved stays stands head heads lp E
    refine ⟨t, run, ?_⟩
    have headIs (h : Fin 24) : u.head h = s.head h := head h
    have queueIs : u.lp.queue = s.lp.queue := (congrArg LinkPort.queue lp :)
    have stationIs : u.stationE = s.stationE := E
  · have boundThere : (u.head h).bound = some l := by rw [headIs, bound]
    have off := above bound
    have there : u.position l.slot + 1 = u.stationE := by rw [stationIs, stands off]; exact atE
    rcases moved.jogBack_cases with ⟨-, away⟩ | ⟨j, m, link, comes, aborts⟩
    · exact absurd there (away h l boundThere)
    · have own : m.slot = l.slot := State.Bonded.slot_of_position (s := u) (by omega)
      obtain rfl : h = j := moved.head_unique boundThere link own.symm
      have exact_abort := abortHead_room boundThere (moved.links h l boundThere).named .jogBack (by rw [queueIs]; exact room)
      have same : u.record l.slot = s.record l.slot := stays off
      rw [headIs, same, queueIs] at exact_abort
      rw [aborts, exact_abort] at hu queue record
      refine ⟨(record _).trans (record_setRecord_self ..), ?_, queue, fun j other => ?_, fun k away first => ?_⟩
      · rw [State.head, hu]
        exact head_setHead_self ..
      · rw [State.head, hu]
        exact (head_setHead_ne other _ _).trans (headIs j)
      · rw [record]
        exact (record_setRecord_ne away _ _).trans (stays first)
  · rcases moved.jogBack_cases with ⟨still, -⟩ | ⟨h, l, link, comes, -⟩
    · rw [still] at hu queue record
      exact ⟨hu.trans heads, queue.trans queueIs, fun k first => (record k).trans (stays first)⟩
    · rw [headIs] at link
      have off := above link
      have there : u.position l.slot + 1 = s.position l.slot := stands off
      exact absurd (there.symm.trans (comes.trans stationIs)) (away h l link)

end Sys2Proof.Machine
end

-- ==== Proofs: back-out and the account of the can it takes ====
section
/-! PROOF. What the checks of an INDEX frame leave of the blocks that no trip writes, the re-arming of a request (R33, R101), and the
REVERSE advance with the account it closes (R14, R32, R34). -/

namespace Sys2Proof.Machine

/-! ### The checks, as an operation of HU on the adopted state -/

theorem Quiet.adopted {C : TripCause → Prop} {s t : State} (q : Quiet C s t) (f : IndexFrame) :
    Quiet C (adopt f s) (adopt f t) where
  calm := by
    obtain ⟨fixed, vu, rs, origin, serial, candidate, -, -, -, wake, busy, ring, pointer, direction, latch, stale, hold⟩ := q.parts
    simp only [State.calm, adopt_fixed, adopt_vu, adopt_rs, adopt_tu, adopt_nc, adopt_candidate, adopt_lastCount,
      adopt_lastPhase, adopt_unchecked, fixed, vu, rs, origin, serial, candidate, wake, busy, ring, pointer, direction,
      latch, stale, hold]
  grows := q.grows
  kept := q.kept
  mode := q.mode
  raised := q.raised
  others := q.others
  queue := q.queue

theorem checked_quiet (f : IndexFrame) (s : State) :
    Quiet (fun _ => True) (adopt f (restartGap s)) (checked f s) := by
  have turret : Quiet (fun _ => True) (adopt f (restartGap s)) (turretCheck f (restartGap s)) := by
    by_cases miss : s.mismatches f
    · rw [turretCheck_mismatch (s := restartGap s) miss]
      exact (Quiet.requestTrip trivial (restartGap s)).adopted f
    · rw [turretCheck_found (s := restartGap s) miss]
  exact turret.trans (Quiet.takeVent (fun _ => trivial) _)

/-! ### Re-arming (R33, R101) -/

theorem rearmIf_none (s : State) : rearmIf none s = s := rfl

theorem rearmIf_room {q : SampleRequest} {s : State} (room : s.vu.samples.length < 4) :
    (rearmIf (some q) s).vu.samples = q :: s.vu.samples := by
  show (rearm q s).vu.samples = _
  rcases rearm_cases q s with ⟨-, e⟩ | ⟨full, -⟩
  · rw [e]
  · omega

theorem rearmIf_full {q : SampleRequest} {s : State} (full : 4 ≤ s.vu.samples.length) :
    (rearmIf (some q) s).vu.samples = s.vu.samples ∧ hasAlert .sampleLost (rearmIf (some q) s).nc.alerts = true := by
  show (rearm q s).vu.samples = _ ∧ hasAlert .sampleLost (rearm q s).nc.alerts = true
  rcases rearm_cases q s with ⟨room, -⟩ | ⟨-, e⟩
  · omega
  · rw [e]
    refine ⟨rfl, ?_⟩
    show hasAlert .sampleLost (addAlert .sampleLost _) = true
    simp [hasAlert_addAlert]

/-! ### The back-out (R32, R34) -/

section
variable {s : State}

theorem backOut_loaded (loaded : (s.record (s.slotAt 0)).state = .loaded) : backOut s =
    rearmIf (s.record (s.slotAt 0)).sample (lowerInUse (s.record (s.slotAt 0)).recipe
      (onTally (s.record (s.slotAt 0)).recipe (fun t => { t with backedOut := t.backedOut + 1 })
        (s.setRecord (s.slotAt 0) Record.cleared))) := by
  unfold backOut
  dsimp only
  rw [loaded]

theorem backOut_vu (other : (s.record (s.slotAt 0)).state ≠ .loaded) : (backOut s).vu = s.vu := by
  unfold backOut
  dsimp only
  split
  next => rfl
  next => rfl
  next loaded => exact absurd loaded other

/-- The tallies, the Sample List and the alert of a back-out. -/
theorem backOut_account {k : Fin 8} {x : Option SampleRequest} (loaded : (s.record (s.slotAt 0)).state = .loaded)
    (recipe : (s.record (s.slotAt 0)).recipe = k) (sample : (s.record (s.slotAt 0)).sample = x) :
    (∀ j : Fin 8, (backOut s).vu.tallies[j] = if j = k then
      { s.vu.tallies[k] with backedOut := (s.vu.tallies[k]).backedOut + 1 } else s.vu.tallies[j]) ∧
    (x = none → (backOut s).vu.samples = s.vu.samples) ∧
    ∀ q, x = some q →
      (s.vu.samples.length < 4 → (backOut s).vu.samples = q :: s.vu.samples) ∧
      (4 ≤ s.vu.samples.length → (backOut s).vu.samples = s.vu.samples ∧
        hasAlert .sampleLost (backOut s).nc.alerts = true) := by
  have whole := backOut_loaded loaded
  rw [recipe, sample] at whole
  have samples : (lowerInUse k (onTally k (fun t => { t with backedOut := t.backedOut + 1 })
      (s.setRecord (s.slotAt 0) Record.cleared))).vu.samples = s.vu.samples := by rw [lowerInUse_vu]; rfl
  refine ⟨fun j => ?_, fun none => ?_, fun q request => ⟨fun room => ?_, fun full => ?_⟩⟩
  · rw [whole, rearmIf_tallies, lowerInUse_vu, tally_onTally]
    rfl
  · rw [whole, none, rearmIf_none, samples]
  · rw [whole, request, rearmIf_room (by rw [samples]; exact room), samples]
  · rw [whole, request]
    rw [← samples] at full ⊢
    exact rearmIf_full full

/-- The record at position 0 is gone. -/
theorem backOut_gone (empty : (s.record (s.slotAt 0)).state = .empty → s.record (s.slotAt 0) = Record.cleared) :
    (backOut s).record (s.slotAt 0) = Record.cleared := by
  rw [State.Accounted.backedOut_record]
  by_cases none : (s.record (s.slotAt 0)).state = .empty
  · rw [if_neg fun both => both.2 none]
    exact empty none
  · rw [if_pos ⟨rfl, none⟩]

end

/-! ### What a REVERSE advance leaves -/

/-- The blocks at the end of a REVERSE advance, from those that the back-out left. -/
structure ReverseEnd (w : State) (t : State) : Prop where
  origin : t.tu.origin = w.tu.origin + 1
  stations : t.tu.stations = w.tu.stations
  candidate : t.lp.candidate = w.lp.candidate
  vu : t.vu = (backOut w).vu
  gone : ((backOut w).record (w.slotAt 0) = Record.cleared → t.record (w.slotAt 0) = Record.cleared)
  raised : ∀ a, hasAlert a (backOut w).nc.alerts = true → hasAlert a t.nc.alerts = true
  store : t.rs = (if w.nc.mode = .drain ∧ t.nc.mode = .standby then (backOut w).rs.applyParked (fun _ => true)
    else (backOut w).rs)
  mode : t.nc.mode = w.nc.mode ∨ t.nc.mode = .trip ∨ (w.nc.mode = .drain ∧ t.nc.mode = .standby)

theorem reverseEnd (φ : Fin 24) (w : State) : ReverseEnd w (takeAdvance .reverse φ w).2 := by
  have quiet := Quiet.jogBackArrival (originReverse (backOut w))
  have turned := advanced_mode .reverse φ w
  have lp := movedBack_lp w
  have stations := (State.Accounted.backOut_tu w).2
  have origin := (State.Accounted.backOut_tu w).1
  obtain ⟨-, lpAfter, tu, vu, alerts, -⟩ := drained_parts (advanced .reverse φ w)
  have ends := endDrain_cases (reportRing (advanced .reverse φ w))
  rw [takeAdvance_state]
  rw [advanced_reverse] at turned lpAfter tu vu alerts ends ⊢
  generalize jogBackArrival (originReverse (backOut w)) = j at quiet turned lpAfter tu vu alerts ends ⊢
  have mode : ((endDrain (reportRing j)).nc.mode = j.nc.mode ∧ (endDrain (reportRing j)).rs = j.rs) ∨
      (j.nc.mode = .drain ∧ (endDrain (reportRing j)).nc.mode = .standby ∧
        (endDrain (reportRing j)).rs = j.rs.applyParked (fun _ => true)) := by
    rcases ends with ⟨same, -⟩ | ⟨drain, -, e⟩
    · rw [same]; exact .inl ⟨rfl, rfl⟩
    · rw [e]; exact .inr ⟨drain, rfl, rfl⟩
  generalize endDrain (reportRing j) = t at lpAfter tu vu alerts mode ⊢
  have moved : j.nc.mode = w.nc.mode ∨ j.nc.mode = .trip := turned.imp (·.1) (·.2.1)
  have rs : j.rs = (backOut w).rs := quiet.rs
  refine ⟨?_, ?_, ?_, vu.trans quiet.vu, fun cleared => ?_, fun a on => ?_, ?_, ?_⟩
  · rw [tu, quiet.origin]
    show (backOut w).tu.origin + 1 = _
    rw [origin]
  · rw [tu, quiet.stations]
    exact stations
  · rw [lpAfter, quiet.candidate, lp]
  · have cleared : (originReverse (backOut w)).record (w.slotAt 0) = Record.cleared := cleared
    rw [State.record, tu]
    exact (quiet.kept _ (by rw [cleared]; decide)).trans cleared
  · rw [alerts]
    exact quiet.raised a on
  · rcases mode with ⟨same, store⟩ | ⟨drain, standby, store⟩
    · rw [store, rs, same, if_neg]
      rintro ⟨was, now⟩
      rcases moved with e | e
      · exact nomatch was.symm.trans (e.symm.trans now)
      · exact nomatch e.symm.trans now
    · rw [store, rs, standby, if_pos]
      refine ⟨?_, rfl⟩
      rcases moved with e | e
      · exact e.symm.trans drain
      · exact nomatch e.symm.trans drain
  · rcases mode with ⟨same, -⟩ | ⟨drain, standby, -⟩
    · rw [same]
      exact moved.elim .inl (.inr ∘ .inl)
    · rcases moved with e | e
      · exact .inr (.inr ⟨e.symm.trans drain, standby⟩)
      · exact nomatch e.symm.trans drain

theorem stationTag_congr {s t : State} (tu : t.tu = s.tu) (p : Nat) : t.stationTag p = s.stationTag p := by
  have slot : t.slotAtStation p = s.slotAtStation p := by simp only [State.slotAtStation, State.slotAt, tu]
  have record (k : Fin 64) : t.record k = s.record k := by simp only [State.record, tu]
  cases at_p : s.slotAtStation p with
  | none => simp only [State.stationTag, slot, at_p]
  | some k => simp only [State.stationTag, slot, at_p, State.tagOf, record]

/-- The slots of an advance that carries no can. -/
theorem reverse_slots (ws : List Word) (φ : Fin 24) (w : State) : indexLead ws (takeAdvance .reverse φ w).1 =
    ws.take 4 ++ [0] ++ tagWords ((takeAdvance .reverse φ w).2.stationTag (takeAdvance .reverse φ w).2.stationK) ++
      tagWords ((takeAdvance .reverse φ w).2.stationTag (takeAdvance .reverse φ w).2.stationW) := by
  have tu := (takeAdvance_after .reverse φ w).2.2
  have slots : (takeAdvance .reverse φ w).1 = ⟨false, none, (advanced .reverse φ w).stationTag (advanced .reverse φ w).stationK,
    (advanced .reverse φ w).stationTag (advanced .reverse φ w).stationW⟩ := rfl
  rw [slots]
  generalize advanced .reverse φ w = j at tu
  generalize (takeAdvance .reverse φ w).2 = t at tu
  have table : t.stationK = j.stationK ∧ t.stationW = j.stationW := by
    simp only [State.stationK, State.stationW, tu, and_self]
  rw [stationTag_congr tu, stationTag_congr tu, table.1, table.2]
  rfl

theorem inUse_lowered {rs : RecipeStore} {s t : State} {k : Fin 8} (store : t.rs.inUse = (rs.lowered k).inUse) (base : rs = s.rs) :
    t.inUse k = s.inUse k - 1 := by
  subst base
  simp only [State.inUse, store, lowered_inUse]
  exact Vector.getElem_set_self ..

/-- Settles O14: the back-out after the checks, which leave every block that it reads. -/
theorem reverseBacksOut : Obligations.ReverseBacksOut := by
  intro ws f s read reverse awake accounted legal
  have run := exec_checked read awake
  have quiet := checked_quiet f s
  have ends := reverseEnd f.phase (checked f s)
  have slots := reverse_slots ws f.phase (checked f s)
  have transit := (fixed_parts ((takeAdvance_fixed .reverse f.phase (checked f s)).trans quiet.fixed)).2.2.2.2.1
  rw [reverse] at run
  generalize takeAdvance .reverse f.phase (checked f s) = out at run ends slots transit
  have first : (checked f s).slotAt 0 = s.slotAt 0 := quiet.slotAt 0
  have origin : (checked f s).tu.origin = s.tu.origin := quiet.origin
  have stations : (checked f s).tu.stations = s.tu.stations := quiet.stations
  have candidate : (checked f s).lp.candidate = s.lp.candidate := quiet.candidate
  have vu : (checked f s).vu = s.vu := quiet.vu
  have rs : (checked f s).rs = s.rs := quiet.rs
  have state : ((checked f s).record (s.slotAt 0)).state = (s.record (s.slotAt 0)).state := quiet.state _
  have recipe : ((checked f s).record (s.slotAt 0)).recipe = (s.record (s.slotAt 0)).recipe := (quiet.grows _).recipe
  have sample : ((checked f s).record (s.slotAt 0)).sample = (s.record (s.slotAt 0)).sample := (quiet.grows _).sample
  have kept : (s.record (s.slotAt 0)).state ≠ .loaded → (checked f s).record (s.slotAt 0) = s.record (s.slotAt 0) :=
    quiet.kept _
  have mode : (checked f s).nc.mode = s.nc.mode ∨ (s.working ∧ (checked f s).nc.mode = .trip) :=
    quiet.mode.imp (·.1) fun both => ⟨both.1, both.2.1⟩
  have store := backOut_rs (checked f s)
  rw [first, state, recipe, rs] at store
  have lead : putTransit (.accepted (indexLead ws out.1)) out.2 = { out.2 with
      lp.transit := s.lp.transit ++ [.accepted (indexLead ws out.1)] } := by
    rw [putTransit, transit]
    rfl
  refine ⟨_, run, ?_, ends.origin.trans (by rw [origin]), ends.stations.trans stations, ends.candidate.trans candidate,
    ?_, fun loaded => ?_, fun other => ?_⟩
  · rw [lead, slots]
    rfl
  · have gone := ends.gone
    rw [first] at gone
    refine gone ?_
    rw [← first]
    refine backOut_gone fun empty => ?_
    rw [first] at empty ⊢
    have empty := state.symm.trans empty
    rw [kept (by rw [empty]; decide)]
    exact legal.cleared _ empty
  · rintro k rfl
    have working : s.nc.mode ≠ .standby ∧ s.nc.mode ≠ .waitSync := by
      refine ⟨fun e => ?_, fun e => ?_⟩
      · exact nomatch (accounted.empty (.inr e) _).symm.trans loaded
      · exact nomatch (accounted.empty (.inl e) _).symm.trans loaded
    have account := backOut_account (s := checked f s) (by rw [first, state]; exact loaded)
      (by rw [first, recipe]) (by rw [first, sample])
    rw [vu] at account
    obtain ⟨tallies, none, some⟩ := account
    rw [if_pos loaded] at store
    have lowered : out.2.rs = (if out.2.nc.mode = .standby
        then (s.rs.lowered (s.record (s.slotAt 0)).recipe).applyParked (fun _ => true)
        else s.rs.lowered (s.record (s.slotAt 0)).recipe) := by
      rw [ends.store, store]
      refine if_congr ⟨fun both => both.2, fun standby => ⟨?_, standby⟩⟩ rfl rfl
      rcases ends.mode with e | e | ⟨e, -⟩
      · rcases mode with e' | ⟨-, e'⟩
        · exact absurd (e'.symm.trans (e.symm.trans standby)) working.1
        · exact nomatch e'.symm.trans (e.symm.trans standby)
      · exact nomatch e.symm.trans standby
      · exact e
    refine ⟨?_, ?_, fun j other => ?_, fun request => ?_, fun q request => ⟨fun room => ?_, fun full => ?_⟩, lowered⟩
    · refine inUse_lowered (s := s) (rs := s.rs) ?_ rfl
      show out.2.rs.inUse = _
      rw [lowered]
      split <;> rfl
    · show out.2.vu.tallies[_] = _
      rw [ends.vu, tallies, if_pos rfl]
    · show out.2.vu.tallies[j] = _
      rw [ends.vu, tallies, if_neg other]
    · show out.2.vu.samples = _
      rw [ends.vu, none request]
    · show out.2.vu.samples = _
      rw [ends.vu, (some q request).1 room]
    · obtain ⟨same, alert⟩ := (some q request).2 full
      refine ⟨?_, ends.raised _ alert⟩
      show out.2.vu.samples = _
      rw [ends.vu, same]
  · have same : (backOut (checked f s)).vu = s.vu := by
      rw [backOut_vu (by rw [first, state]; exact other), vu]
    rw [if_neg other] at store
    have rsAfter : out.2.rs = (if s.nc.mode = .drain ∧ out.2.nc.mode = .standby then s.rs.applyParked (fun _ => true)
        else s.rs) := by
      rw [ends.store, store]
      refine if_congr (and_congr_left fun standby => ?_) rfl rfl
      rcases mode with e | ⟨work, e⟩
      · rw [e]
      · rcases ends.mode with e' | e' | ⟨e', -⟩
        · exact nomatch e.symm.trans (e'.symm.trans standby)
        · exact nomatch e'.symm.trans standby
        · exact nomatch e.symm.trans e'
    refine ⟨ends.vu.trans same, fun k => ?_, rsAfter⟩
    show out.2.inUse k = _
    rw [State.inUse, rsAfter]
    split <;> rfl

end Sys2Proof.Machine
end

-- ==== Proofs: records that the turret does not touch ====
section
/-! PROOF. A record that no head is bound to and that no arrival at the turret finds: through the checks and the arrivals of an INDEX
frame it stays as it was, or a trip of the node adds TRIPPED to it (R39, R148). -/

namespace Sys2Proof.Machine

/-! ### The relation -/

/-- A record with TRIPPED added (R148). -/
def Record.marked (r : Record) : Record := { r with causes := addCause .tripped r.causes }

theorem marked_marked (r : Record) : r.marked.marked = r.marked := by
  unfold Record.marked
  dsimp only
  rw [addCause_addCause]

/-- An operation of HU that leaves the record in slot k, or marks it by a trip. -/
structure Aloof (C : TripCause → Prop) (k : Fin 64) (s t : State) : Prop where
  quiet : Quiet C s t
  record : t.record k = s.record k ∨ (t.nc.mode = .trip ∧ t.record k = (s.record k).marked)

namespace Aloof
variable {C : TripCause → Prop} {k : Fin 64} {s t u : State}

theorem same (q : Quiet C s t) (record : t.record k = s.record k) : Aloof C k s t := ⟨q, .inl record⟩

theorem refl (s : State) : Aloof C k s s := same (.refl s) rfl

theorem trans (x : Aloof C k s t) (y : Aloof C k t u) : Aloof C k s u where
  quiet := x.quiet.trans y.quiet
  record := by
    have trip (found : t.nc.mode = .trip) : u.nc.mode = .trip :=
      (y.quiet.mode_resting (by simp [State.working, found])).1.trans found
    rcases x.record with same | ⟨found, marked⟩
    · rw [← same]
      exact y.record
    · rcases y.record with same | ⟨-, again⟩
      · exact .inr ⟨trip found, same.trans marked⟩
      · exact .inr ⟨trip found, by rw [again, marked, marked_marked]⟩

/-- The record stays unbound. -/
theorem unbound (x : Aloof C k s t) (unbound : (s.record k).bound = false) : (t.record k).bound = false := by
  rcases x.record with same | ⟨-, marked⟩
  · rw [same]; exact unbound
  · rw [marked]; exact unbound

/-! ### The operations on other records -/

theorem setHead (h : Fin 24) (c : HeadContext) (s : State) : Aloof C k s (s.setHead h c) := same (.setHead h c s) rfl

theorem leaveTo (h : Fin 24) (st : HeadState) (s : State) : Aloof C k s (leaveTo h st s) := setHead h _ s

theorem writeLoaded {l : Link} (other : l.slot ≠ k) {f : Record → Record} (grows : ∀ r : Record, r.Grows (f r)) (s : State) :
    Aloof C k s (writeLoaded l f s) := by
  refine same (.writeLoaded grows s) ?_
  unfold Machine.writeLoaded
  split
  · exact record_setRecord_ne other.symm _ _
  · rfl

theorem addCauseTo {l : Link} (other : l.slot ≠ k) (c : Cause) (s : State) : Aloof C k s (addCauseTo l c s) :=
  writeLoaded other (grows_addCause c) s

theorem setRecord {j : Fin 64} (other : j ≠ k) {r : Record} (loaded : (s.record j).state = .loaded)
    (grows : (s.record j).Grows r) : Aloof C k s (s.setRecord j r) :=
  same (.setRecord loaded grows) (record_setRecord_ne other.symm _ _)

theorem bindHead (h : Fin 24) {j : Fin 64} (other : j ≠ k) (loaded : (s.record j).state = .loaded) :
    Aloof C k s (bindHead h j s) := same (.bindHead h loaded) (record_setRecord_ne other.symm _ _)

theorem addBoundCause {h : Fin 24} (slot : ∀ l, (s.head h).bound = some l → l.slot ≠ k) (c : Cause) :
    Aloof C k s (addBoundCause h c s) := by
  unfold Machine.addBoundCause
  split
  next l bound => exact addCauseTo (slot l bound) c s
  next => exact refl s

theorem unbind {h : Fin 24} (slot : ∀ l, (s.head h).bound = some l → l.slot ≠ k) : Aloof C k s (unbind h s) := by
  unfold Machine.unbind
  split
  next => exact refl s
  next l bound => exact (setHead h _ s).trans (writeLoaded (slot l bound) (grows_bound false) _)

/-! ### The trip -/

theorem tripHead_unbound (unbound : (s.record k).bound = false) (h : Fin 24) : (tripHead s h).record k = s.record k := by
  have cleared : { s.record k with bound := false } = s.record k := by rw [← unbound]
  unfold tripHead Machine.unbind
  split
  · split
    · rfl
    next l bound =>
      show (Machine.writeLoaded l _ (s.setHead h _)).record k = _
      unfold Machine.writeLoaded
      split
      · rw [record_setRecord]
        split
        next own => rw [← own]; exact cleared
        next => rfl
      · rfl
  · rfl

theorem tripHeads_unbound (unbound : (s.record k).bound = false) : (tripHeads s).record k = s.record k := by
  unfold tripHeads
  generalize List.finRange 24 = hs
  induction hs generalizing s with
  | nil => rfl
  | cons h hs ih =>
    have one := tripHead_unbound unbound h
    rw [List.foldl_cons, ih (by rw [one]; exact unbound), one]

theorem requestTrip {cause : TripCause} (found : C cause) (unbound : (s.record k).bound = false) :
    Aloof C k s (requestTrip cause s) := by
  refine ⟨.requestTrip found s, ?_⟩
  by_cases work : s.working
  · have marks : (tripMarked cause s).record k = tripRecord (s.record k) := tripMarked_record cause s k
    have still : (tripRecord (s.record k)).bound = false := by
      unfold tripRecord
      split
      · exact unbound
      · exact unbound
    have entry : (Machine.requestTrip cause s).record k = tripRecord (s.record k) := by
      rw [requestTrip_working work, tripEntry_closed, tripClosed_record, tripHeads_unbound (by rw [marks]; exact still), marks]
    rw [entry, requestTrip_nc_working work]
    unfold tripRecord
    split
    · exact .inr ⟨rfl, rfl⟩
    · exact .inl rfl
  · left
    unfold Machine.requestTrip
    split
    next run => exact absurd (.inl run) work
    next drain => exact absurd (.inr drain) work
    next => rfl
    next => split <;> rfl
    next => rfl

theorem command (x : Aloof onlyFull k s t) (c : HeadCommand) (unbound : (s.record k).bound = false) :
    Aloof onlyFull k s (queueCommand c t) := by
  have still := x.unbound unbound
  have fewer := List.length_filter_le (keepsCommand c) t.lp.queue
  refine x.trans ?_
  by_cases room : (t.lp.queue.filter (keepsCommand c)).length < 48
  · refine same (.queueCommand c t) ?_
    rw [queueCommand_room room]
    rfl
  · have emptied : Aloof onlyFull k t { t with lp.queue := t.lp.queue.filter (keepsCommand c) } :=
      same (.queued fun _ => by omega) rfl
    rw [queueCommand_full (by omega)]
    exact emptied.trans (requestTrip rfl still)

theorem kind (x : Aloof onlyFull k s t) (h : Fin 24) (q : CommandKind) (unbound : (s.record k).bound = false) :
    Aloof onlyFull k s (queueKind h q t) := x.command ⟨h, q, 0⟩ unbound

end Aloof

/-! ### Arrivals elsewhere -/

section
variable {k : Fin 64} {s : State} {h : Fin 24}

theorem abortHead_aloof (slot : ∀ l, (s.head h).bound = some l → l.slot ≠ k) (unbound : (s.record k).bound = false)
    (c : Cause) : Aloof onlyFull k s (abortHead h c s) :=
  (((Aloof.addBoundCause slot c).trans (.unbind fun l link => slot l (by rwa [addBoundCause_head] at link))).trans
    (.leaveTo h .aborting _)).kind h .abort unbound

theorem openIfReady_aloof (slot : ∀ l, (s.head h).bound = some l → l.slot ≠ k) (unbound : (s.record k).bound = false) :
    Aloof onlyFull k s (openIfReady h s) := by
  unfold openIfReady
  split
  next l bound =>
    split
    · exact ((Aloof.writeLoaded (slot l bound) (grows_dosed _ _) s).trans (.setHead _ _ _)).kind h .openGas unbound
    · exact .refl s
  next => exact .refl s

theorem sendCrimp_aloof {t : State} (x : Aloof onlyFull k s t) (unbound : (s.record k).bound = false) :
    Aloof onlyFull k s (sendCrimp h t) := by
  unfold sendCrimp
  split
  · split
    · exact (x.trans (.leaveTo _ _ _)).command _ unbound
    · exact x
  · exact x

theorem clampWaitArrival_aloof (slot : ∀ l, (s.head h).bound = some l → l.slot ≠ k) (unbound : (s.record k).bound = false)
    (r : Record) (p : Nat) : Aloof onlyFull k s (clampWaitArrival h r p s) := by
  unfold clampWaitArrival
  dsimp only
  split
  · exact (Aloof.setHead h _ s).trans (abortHead_aloof (by rw [head_setHead_self]; exact slot) (by exact unbound) .noClamp)
  · exact .setHead h _ s

theorem turretArrival_aloof {j : Fin 64} (other : j ≠ k) (slot : ∀ l, (s.head h).bound = some l → l.slot ≠ k)
    (unbound : (s.record k).bound = false) (p : Nat) : Aloof onlyFull k s (turretArrival h j p s) := by
  unfold turretArrival
  split
  · have written (f : Record → Record) (grows : ∀ r : Record, r.Grows (f r)) :
        Aloof onlyFull k s (writeLoaded (s.tagOf j) f s) := .writeLoaded (l := s.tagOf j) other grows s
    exact (((written _ (grows_released _)).trans (.unbind fun l link => slot l (by rwa [writeLoaded_head] at link))).trans
      (.leaveTo _ _ _)).kind h .release unbound
  · cases (s.head h).state with
    | engaged => exact clampWaitArrival_aloof slot unbound _ p
    | clamped => exact openIfReady_aloof slot unbound
    | charging =>
      dsimp only
      split
      · have caused : Aloof onlyFull k s _ := .addCauseTo (l := s.tagOf j) other .shortGas s
        exact sendCrimp_aloof ((caused.trans (.leaveTo _ _ _)).kind h .closeGas unbound) unbound
      · exact .refl s
    | settling => exact sendCrimp_aloof (.refl s) unbound
    | _ => exact .refl s

theorem engagementArrival_aloof {φ : Fin 24} {j : Fin 64} (other : j ≠ k) (loaded : (s.record j).state = .loaded)
    (unbound : (s.record k).bound = false) : Aloof onlyFull k s (engagementArrival φ j s) := by
  unfold engagementArrival
  dsimp only
  split
  next => exact .refl s
  next =>
    have attempted : Aloof onlyFull k s (s.setRecord j { s.record j with head := some φ, engaged := true }) :=
      .setRecord other loaded ⟨rfl, fun _ on => on⟩
    split
    · split
      · exact (attempted.trans (.bindHead φ other (by rw [record_setRecord_self]; exact loaded))).kind φ .engage unbound
      · exact attempted.trans (.addCauseTo (l := State.tagOf _ j) other .noHead _)
    · exact attempted

end

section
variable {full : Prop} {n : Nat} {k : Fin 64} {s : State}

theorem State.Bonded.arrival_aloof {d : Nat} (b : s.Bonded full d n none) (φ : Fin 24) (other : s.slotAt n ≠ k)
    (unbound : (s.record k).bound = false) : Aloof onlyFull k s (Machine.forwardArrival φ s n) := by
  by_cases loaded : (s.record (s.slotAt n)).state = .loaded
  · by_cases atE : n = s.stationE
    · rw [forwardArrival_atE loaded atE]
      exact engagementArrival_aloof other loaded unbound
    · cases bound : (s.record (s.slotAt n)).boundHead with
      | none =>
        rw [forwardArrival_unbound atE (b.unbound_of bound)]
        exact .refl s
      | some h =>
        rw [forwardArrival_bound loaded atE bound]
        exact turretArrival_aloof other (fun l link => slot_of_tag (b.link_of bound) link ▸ other) unbound n
  · rw [forwardArrival_other loaded]
    exact .refl s

/-- The arrivals of an advance leave a record outside the turret. -/
theorem State.Bonded.arrivals_aloof (b : s.Bonded full 0 0 none) (φ : Fin 24) (unbound : (s.record k).bound = false)
    (away : ¬ (s.stationE ≤ s.position k ∧ s.position k ≤ s.stationR)) : Aloof onlyFull k s (Machine.forwardArrivals φ s) := by
  have upTo (n : Nat) (track : n ≤ 64) : Aloof onlyFull k s (arrivalsBelow φ s n) := by
    induction n with
    | zero => exact .refl s
    | succ n ih =>
      have before := ih (by omega)
      by_cases turret : s.stationE ≤ n ∧ n ≤ s.stationR
      · rw [arrivalsBelow_in turret]
        refine before.trans ((b.swept φ (n := n) (by omega)).arrival_aloof φ ?_ (before.unbound unbound))
        show (arrivalsBelow φ s n).slotAt n ≠ k
        rw [before.quiet.slotAt, ne_comm, Ne, eq_slotAt_iff s k (by omega)]
        rintro rfl
        exact away turret
      · rw [arrivalsBelow_out turret]
        exact before
  exact upTo 64 (Nat.le_refl 64)

end

/-- The checks of an INDEX frame leave an unbound record, or mark it by a trip. -/
theorem checked_aloof (f : IndexFrame) {s : State} {k : Fin 64} (unbound : (s.record k).bound = false) :
    Aloof (fun _ => True) k (adopt f (restartGap s)) (checked f s) := by
  have turret : Aloof (fun _ => True) k (adopt f (restartGap s)) (turretCheck f (restartGap s)) := by
    by_cases miss : s.mismatches f
    · have trip : Aloof (fun _ => True) k (restartGap s) (requestTrip .trackLost (restartGap s)) :=
        .requestTrip trivial unbound
      rw [turretCheck_mismatch (s := restartGap s) miss]
      exact ⟨trip.quiet.adopted f, trip.record⟩
    · rw [turretCheck_found (s := restartGap s) miss]
      exact .refl _
  refine turret.trans ?_
  unfold checked takeVent
  split
  · exact .requestTrip trivial (turret.unbound unbound)
  · exact .refl _

theorem checked_bonded {full : Prop} {s : State} (b : s.Bonded full 0 64 none) (f : IndexFrame) :
    (checked f s).Bonded full 0 64 none := by
  have gap : (restartGap s).Bonded full 0 64 none := b.plain rfl rfl rfl rfl rfl rfl
  have turret : (turretCheck f (restartGap s)).Bonded full 0 64 none := by
    by_cases miss : s.mismatches f
    · rw [turretCheck_mismatch (s := restartGap s) miss]
      exact (gap.requestTrip .trackLost).plain rfl rfl rfl rfl rfl rfl
    · rw [turretCheck_found (s := restartGap s) miss]
      exact gap.plain rfl rfl rfl rfl rfl rfl
  unfold checked takeVent
  split
  · exact turret.requestTrip .vent
  · exact turret

theorem checked_accounted {s : State} (a : s.Accounted) (f : IndexFrame) : (checked f s).Accounted :=
  (adopted_accounted a f).quiet (checked_quiet f s)

end Sys2Proof.Machine
end

-- ==== Proofs: feed, hold and the move of the origin ====
section
/-! PROOF. A FORWARD frame in every mode (R11, R131): its feed and gate slots, the admission decision (R26), and the records that
its move, its arrivals and its gate leave (R12, R13, R17). -/

namespace Sys2Proof.Machine

/-! ### The frame and its slots -/

theorem length_index {ws : List Word} {f : IndexFrame} (read : classify ws = .index f) : ws.length = 27 := by
  unfold classify at read
  split at read
  · split at read
    · unfold decodeIndex at read
      split at read
      · assumption
      · cases read
    · unfold decodeReportFrame at read
      dsimp only at read
      split at read
      · split at read <;> cases read
      · cases read
    · split at read <;> cases read
    · split at read <;> cases read
    · split at read <;> cases read
    · cases read
  · cases read

/-- The feed slot of a FORWARD advance. -/
def fedFlag (φ : Fin 24) (s : State) : Bool := (admission φ (originForward (exitAtX s))).1

/-- The words of a FORWARD frame before its command area as it leaves. -/
def passLead (ws : List Word) (φ : Fin 24) (w t : State) : List Word :=
  ws.take 4 ++ [BitVec.ofNat 16 (flagBit (fedFlag φ w) + 16 * verdictCode (advanced .forward φ w).gateSlot)] ++
    tagWords (t.stationTag t.stationK) ++ tagWords (t.stationTag t.stationW)

theorem verdictCode_le (g : Option Verdict) : verdictCode g ≤ 3 := by
  rcases g with _ | g
  · decide
  · cases g <;> decide

theorem passLead_slots {ws : List Word} (long : 4 ≤ ws.length) (φ : Fin 24) (w t : State) :
    ((passLead ws φ w t).getD 4 0).getLsbD 0 = fedFlag φ w ∧
      ((passLead ws φ w t).getD 4 0).toNat / 16 = verdictCode (advanced .forward φ w).gateSlot := by
  have slot : (passLead ws φ w t).getD 4 0 =
      BitVec.ofNat 16 (flagBit (fedFlag φ w) + 16 * verdictCode (advanced .forward φ w).gateSlot) := by
    have first : (ws.take 4).length = 4 := by rw [List.length_take]; omega
    unfold passLead
    rw [List.append_assoc, List.append_assoc, List.getD_eq_getElem?_getD, List.getElem?_append_right (by omega), first]
    rfl
  have most := verdictCode_le (advanced .forward φ w).gateSlot
  rw [slot]
  generalize verdictCode (advanced .forward φ w).gateSlot = v at most
  generalize fedFlag φ w = b
  constructor
  · rw [BitVec.getLsbD_ofNat]
    cases b
    · simp [flagBit, Nat.testBit_zero]
      omega
    · simp [flagBit, Nat.testBit_zero]
      omega
  · rw [BitVec.toNat_ofNat]
    cases b
    · simp only [flagBit, Bool.toNat_false]
      omega
    · simp only [flagBit, Bool.toNat_true]
      omega

/-- What a FORWARD advance from state w leaves in t, from the state that its gate left. -/
structure ForwardPass (φ : Fin 24) (w t : State) : Prop where
  tu : t.tu = (advanced .forward φ w).tu
  vu : t.vu = (advanced .forward φ w).vu
  candidate : t.lp.candidate = (advanced .forward φ w).lp.candidate
  alerts : t.nc.alerts = (advanced .forward φ w).nc.alerts
  store : (t.nc.mode = (advanced .forward φ w).nc.mode ∧ t.rs = (advanced .forward φ w).rs) ∨
    ((advanced .forward φ w).nc.mode = .drain ∧ (advanced .forward φ w).allEmpty = true ∧
      t.rs = (advanced .forward φ w).rs.applyParked (fun _ => true))

theorem passLead_congr {t u : State} (tu : t.tu = u.tu) (ws : List Word) (φ : Fin 24) (w : State) :
    passLead ws φ w t = passLead ws φ w u := by
  have table : t.stationK = u.stationK ∧ t.stationW = u.stationW := by
    simp only [State.stationK, State.stationW, tu, and_self]
  rw [passLead, passLead, stationTag_congr tu, stationTag_congr tu, table.1, table.2]

theorem forward_slots (ws : List Word) (φ : Fin 24) (w : State) :
    indexLead ws (takeAdvance .forward φ w).1 = passLead ws φ w (advanced .forward φ w) := by
  have slots : (takeAdvance .forward φ w).1 = ⟨fedFlag φ w, (advanced .forward φ w).gateSlot,
    (advanced .forward φ w).stationTag (advanced .forward φ w).stationK,
    (advanced .forward φ w).stationTag (advanced .forward φ w).stationW⟩ := rfl
  rw [slots, passLead]
  generalize advanced .forward φ w = j
  rfl

theorem endDrain_store (s : State) :
    ((endDrain (reportRing s)).nc.mode = s.nc.mode ∧ (endDrain (reportRing s)).rs = s.rs) ∨
      (s.nc.mode = .drain ∧ s.allEmpty = true ∧ (endDrain (reportRing s)).rs = s.rs.applyParked (fun _ => true)) := by
  rcases endDrain_cases (reportRing s) with ⟨same, -⟩ | ⟨drain, empty, e⟩
  · rw [same]; exact .inl ⟨rfl, rfl⟩
  · rw [e]; exact .inr ⟨drain, empty, rfl⟩

theorem exec_pass {ws : List Word} {f : IndexFrame} {s : State} (read : classify ws = .index f)
    (forward : f.advance = .forward) (awake : s.bypassed = false) :
    ∃ t, exec (.indexFrame ws) s = .next t ∧
      t.lp.transit = s.lp.transit ++ [.accepted (passLead ws f.phase (checked f s) t)] ∧
      ForwardPass f.phase (checked f s) t := by
  have run := exec_checked read awake
  have transit := (fixed_parts ((takeAdvance_fixed .forward f.phase (checked f s)).trans (checked_quiet f s).fixed)).2.2.2.2.1
  have store := endDrain_store (advanced .forward f.phase (checked f s))
  have parts := drained_parts (advanced .forward f.phase (checked f s))
  rw [← takeAdvance_state] at store parts
  obtain ⟨-, lp, tu, vu, alerts, -⟩ := parts
  have lead (t : State) (same : t.tu = (advanced .forward f.phase (checked f s)).tu) :
      indexLead ws (takeAdvance .forward f.phase (checked f s)).1 = passLead ws f.phase (checked f s) t :=
    (forward_slots ws f.phase (checked f s)).trans (passLead_congr same ws f.phase (checked f s)).symm
  rw [forward] at run
  generalize takeAdvance .forward f.phase (checked f s) = out at run store lp tu vu alerts transit lead
  refine ⟨_, run, ?_, tu, vu, (congrArg LinkPort.candidate lp :), alerts, store⟩
  rw [putTransit_transit, transit, ← lead _ (by exact tu)]
  rfl

/-! ### What a FORWARD advance leaves of each record -/

section
variable (φ : Fin 24) (w : State)

theorem arrivals_quiet : Quiet onlyFull (entered φ w) (forwardArrivals φ (entered φ w)) := Quiet.forwardArrivals φ _

theorem gateArrival_tu (s : State) : (gateArrival s).tu.origin = s.tu.origin ∧
    (gateArrival s).tu.stations = s.tu.stations ∧ (gateArrival s).tu.nextSerial = s.tu.nextSerial := by
  rcases gateArrival_cases s with ⟨same, -⟩ | ⟨k, -, -, given⟩
  · rw [same]; exact ⟨rfl, rfl, rfl⟩
  · rw [given, State.Accounted.giveVerdict_tu]
    exact ⟨rfl, rfl, rfl⟩

/-- The track and the serial after the advance. -/
theorem advanced_track : (advanced .forward φ w).tu.origin = w.tu.origin - 1 ∧
    (advanced .forward φ w).tu.stations = w.tu.stations ∧
    (advanced .forward φ w).tu.nextSerial = (entered φ w).tu.nextSerial ∧
    (advanced .forward φ w).lp.candidate = (entered φ w).lp.candidate := by
  have quiet := arrivals_quiet φ w
  obtain ⟨origin, stations, serial⟩ := gateArrival_tu (forwardArrivals φ (entered φ w))
  have lp := (gateArrival_heads (forwardArrivals φ (entered φ w))).2.1
  rw [advanced_forward]
  refine ⟨?_, ?_, serial.trans quiet.nextSerial, ?_⟩
  · rw [origin, quiet.origin, entered_origin]
  · rw [stations, quiet.stations, entered_stations]
  · rw [lp, quiet.candidate]

/-- A record that is not LOADED after the move is left by the arrivals and the gate. -/
theorem advanced_notLoaded {k : Fin 64} (other : ((entered φ w).record k).state ≠ .loaded) :
    (advanced .forward φ w).record k = (entered φ w).record k := by
  have kept := (arrivals_quiet φ w).kept k other
  rw [advanced_forward, gateArrival_record (.inr (by rw [kept]; exact other)), kept]

end

section
variable (φ : Fin 24) (s : State)

/-- The decision does not read the ring's records and origin. -/
theorem feedDecision_moved : (originForward (exitAtX s)).feedDecision φ = s.feedDecision φ := rfl

theorem feedDecision_feed {c : Candidate} {p : Fin 16} : s.feedDecision φ = .feed c p ↔
    s.lp.candidate = some c ∧ c.code = some p ∧ s.recipeWord (recipeOf p) 0 ≠ 0 ∧ s.closing (recipeOf p) = false ∧
      s.usable (s.predictedHead φ) = true := by
  constructor
  · intro decision
    unfold State.feedDecision at decision
    split at decision
    · cases decision
    next c' arrived =>
      split at decision
      · cases decision
      next p' code =>
        by_cases slot : s.recipeWord (recipeOf p') 0 = 0
        · rw [if_pos slot] at decision; cases decision
        rw [if_neg slot] at decision
        by_cases closing : s.closing (recipeOf p') = true
        · rw [if_pos closing] at decision; cases decision
        rw [if_neg closing] at decision
        by_cases usable : s.usable (s.predictedHead φ) = true
        · rw [if_pos usable] at decision
          cases decision
          exact ⟨arrived, code, slot, by simpa using closing, usable⟩
        · rw [if_neg usable] at decision; cases decision
  · rintro ⟨arrived, code, slot, closing, usable⟩
    simp only [State.feedDecision, arrived, code]
    rw [if_neg slot, if_neg (by simp [closing]), if_pos usable]

/-- A held can leaves the candidate, the serial and the slot of the record that left. -/
theorem entered_held (held : fedFlag φ s = false) : (entered φ s).lp.candidate = s.lp.candidate ∧
    (entered φ s).tu.nextSerial = s.tu.nextSerial ∧ (entered φ s).record (s.slotAt 63) = Record.cleared ∧
    (entered φ s).vu = s.vu ∧ (entered φ s).rs = s.rs := by
  have cleared : (originForward (exitAtX s)).record (s.slotAt 63) = Record.cleared := record_setRecord_self s _ _
  rcases admission_cases φ (originForward (exitAtX s)) with ⟨-, e⟩ | ⟨a, -, -, -, e⟩ | ⟨c, p, -, -, fed, -⟩
  · rw [entered, e]
    exact ⟨rfl, rfl, cleared, rfl, rfl⟩
  · rw [entered, e]
    exact ⟨rfl, rfl, cleared, rfl, rfl⟩
  · exact nomatch held.symm.trans fed

theorem fedFlag_away (away : s.nc.mode ≠ .run) : fedFlag φ s = false := by
  rcases admission_cases φ (originForward (exitAtX s)) with ⟨held, -⟩ | ⟨a, run, -⟩ | ⟨c, p, run, -⟩
  · exact held
  · exact absurd run away
  · exact absurd run away

theorem fedFlag_run (run : s.nc.mode = .run) : fedFlag φ s = true ↔ ∃ c p, s.feedDecision φ = .feed c p := by
  have decided : fedFlag φ s = (match s.feedDecision φ with | .hold _ => false | .feed _ _ => true) := by
    show (admission φ (originForward (exitAtX s))).1 = _
    unfold admission
    rw [if_pos (by exact run), feedDecision_moved]
    cases s.feedDecision φ <;> rfl
  rw [decided]
  cases s.feedDecision φ <;> simp

/-- The alert of a hold (R26). -/
theorem entered_alert (run : s.nc.mode = .run) {a : AlertKind} (decision : s.feedDecision φ = .hold (some a)) :
    hasAlert a (entered φ s).nc.alerts = true := by
  have held : admission φ (originForward (exitAtX s)) = (false, raiseAlert a (originForward (exitAtX s))) := by
    unfold admission
    rw [if_pos (by exact run), feedDecision_moved, decision]
    rfl
  rw [entered, held]
  show hasAlert a (addAlert a _) = true
  simp [hasAlert_addAlert]

end

section
variable {f : IndexFrame} {s : State}

/-- A frame after which the node is in RUN follows, and the node was. -/
theorem checked_run (run : (checked f s).nc.mode = .run) : s.nc.mode = .run ∧ s.follows f := by
  have mode := (checked_quiet f s).mode
  have was : s.nc.mode = .run := by
    rcases mode with ⟨same, -⟩ | ⟨-, trip, -⟩
    · exact same.symm.trans run
    · exact nomatch run.symm.trans trip
  refine ⟨was, ?_⟩
  by_contra astray
  exact nomatch run.symm.trans (checked_trips (.inl was) astray)

/-- The parts of the state that the checks leave, as the infeed and the track read them. -/
theorem checked_parts (f : IndexFrame) (s : State) : (checked f s).lp.candidate = s.lp.candidate ∧
    (checked f s).tu.nextSerial = s.tu.nextSerial ∧ (checked f s).tu.origin = s.tu.origin ∧
    (checked f s).tu.stations = s.tu.stations ∧ (checked f s).vu = s.vu ∧ (checked f s).rs = s.rs :=
  have quiet := checked_quiet f s
  ⟨quiet.candidate, quiet.nextSerial, quiet.origin, quiet.stations, quiet.vu, quiet.rs⟩

theorem checked_slotAt (f : IndexFrame) (s : State) (p : Nat) : (checked f s).slotAt p = s.slotAt p :=
  (checked_quiet f s).slotAt p

theorem checked_position (f : IndexFrame) (s : State) (k : Fin 64) : (checked f s).position k = s.position k :=
  (checked_quiet f s).position k

end

/-- Settles O18: the decision of R26 after the checks, which a frame that does not follow leaves in no RUN. -/
theorem holdKeepsCandidate : Obligations.HoldKeepsCandidate := by
  refine ⟨fun p φ s => ⟨rfl, rfl⟩, fun ws f s read forward awake accounted holds => ?_⟩
  obtain ⟨t, run, transit, pass⟩ := exec_pass read forward awake
  have long : 4 ≤ ws.length := by rw [length_index read]; decide
  obtain ⟨candidate, serial, -⟩ := checked_parts f s
  obtain ⟨-, -, serialAfter, candidateAfter⟩ := advanced_track f.phase (checked f s)
  have held : fedFlag f.phase (checked f s) = false := by
    by_contra fed
    by_cases inRun : (checked f s).nc.mode = .run
    · obtain ⟨was, follows⟩ := checked_run inRun
      obtain ⟨c, p, decision⟩ := (fedFlag_run f.phase (checked f s) inRun).mp (by simpa using fed)
      rw [checked_follows follows] at decision
      obtain ⟨arrived, code, slot, closing, usable⟩ := (feedDecision_feed ..).mp decision
      have arrived : s.lp.candidate = some c := arrived
      have slot : s.recipeWord (recipeOf p) 0 ≠ 0 := slot
      have closing : s.closing (recipeOf p) = false := closing
      have usable : s.usable (s.predictedHead f.phase) = true := usable
      simp only [State.usable, Bool.and_eq_true, bne_iff_ne] at usable
      rcases holds with away | astray | none | ⟨c', there, uncoded | ⟨p', coded, empty | shut | disabled | faulted⟩⟩
      · exact away was
      · exact astray follows
      · rw [none] at arrived; cases arrived
      all_goals
        rw [there] at arrived
        cases arrived
      · rw [uncoded] at code; cases code
      all_goals
        rw [coded] at code
        cases code
      · exact slot empty
      · obtain ⟨e, mem, own⟩ := shut
        exact closing_eq_false.mp closing e mem own
      · rw [disabled] at usable; exact nomatch usable.1
      · exact usable.2 faulted
    · exact fed (fedFlag_away f.phase _ inRun)
  obtain ⟨heldCandidate, heldSerial, cleared, -⟩ := entered_held f.phase (checked f s) held
  rw [checked_slotAt] at cleared
  refine ⟨t, _, run, transit, ?_, ?_, ?_, ?_, fun inRun follows c arrived => ?_⟩
  · rw [(passLead_slots long ..).1, held]
  · rw [pass.candidate, candidateAfter, heldCandidate, candidate]
  · rw [pass.tu, serialAfter, heldSerial, serial]
  · rw [State.record, pass.tu]
    exact (advanced_notLoaded f.phase (checked f s) (by rw [cleared]; decide)).trans cleared
  · have raised {a : AlertKind} (decision : s.feedDecision f.phase = .hold (some a)) : hasAlert a t.nc.alerts = true := by
      have alert := entered_alert f.phase (checked f s) (by rw [checked_follows follows]; exact inRun)
        (a := a) (by rw [checked_follows follows]; exact decision)
      rw [pass.alerts, advanced_forward]
      exact (Warned.gateArrival _).raised _ ((arrivals_quiet f.phase (checked f s)).raised _ alert)
    refine ⟨fun uncoded => raised ?_, fun p code empty => raised ?_⟩
    · simp only [State.feedDecision, arrived, uncoded]
    · simp only [State.feedDecision, arrived, code, empty, if_true]

end Sys2Proof.Machine
end

-- ==== Proofs: FEED, the gate and the verdict ====
section
/-! PROOF. The FORWARD advance of a FEED (R28 to R30), of the record that arrives at J (R13, R90 to R95, R101) and of those that
have their verdict (R17). -/

namespace Sys2Proof.Machine

/-! ### The feed -/

section
variable (φ : Fin 24) (s : State)

theorem entered_fed (fed : fedFlag φ s = true) : ∃ c p, s.nc.mode = .run ∧ s.feedDecision φ = .feed c p ∧
    entered φ s = feed φ c p (originForward (exitAtX s)) := by
  rcases admission_cases φ (originForward (exitAtX s)) with ⟨held, -⟩ | ⟨a, -, -, held, -⟩ | ⟨c, p, run, decision, -, e⟩
  · exact nomatch held.symm.trans fed
  · exact nomatch held.symm.trans fed
  · exact ⟨c, p, run, decision, e⟩

theorem entered_feed {c : Candidate} {p : Fin 16} (run : s.nc.mode = .run) (decision : s.feedDecision φ = .feed c p) :
    fedFlag φ s = true ∧ entered φ s = feed φ c p (originForward (exitAtX s)) := by
  have fed := (fedFlag_run φ s run).mpr ⟨c, p, decision⟩
  obtain ⟨c', p', -, again, e⟩ := entered_fed φ s fed
  rw [decision] at again
  cases again
  exact ⟨fed, e⟩

/-- A feed touches the admitted tally alone (R103). -/
theorem entered_tally (j : Fin 8) : ((entered φ s).vu.tallies[j]).passed = (s.vu.tallies[j]).passed ∧
    ((entered φ s).vu.tallies[j]).rejected = (s.vu.tallies[j]).rejected ∧
    ((entered φ s).vu.tallies[j]).sampled = (s.vu.tallies[j]).sampled ∧
    ((entered φ s).vu.tallies[j]).backedOut = (s.vu.tallies[j]).backedOut := by
  cases fed : fedFlag φ s with
  | false =>
    obtain ⟨-, -, -, vu, -⟩ := entered_held φ s fed
    rw [vu]
    exact ⟨rfl, rfl, rfl, rfl⟩
  | true =>
    obtain ⟨c, p, -, -, e⟩ := entered_fed φ s fed
    have same : (originForward (exitAtX s)).vu = s.vu := rfl
    rw [e, feed_tallies, tally_onTally, same]
    split
    next own => rw [own]; exact ⟨rfl, rfl, rfl, rfl⟩
    next => exact ⟨rfl, rfl, rfl, rfl⟩

/-- The record that a FEED put at position 0. -/
theorem entered_first {c : Candidate} {p : Fin 16} (e : entered φ s = feed φ c p (originForward (exitAtX s))) :
    (entered φ s).record (s.slotAt 63) = (originForward (exitAtX s)).firstRecord φ c p := by
  have first : (originForward (exitAtX s)).slotAt 0 = s.slotAt 63 := slotAt_originForward_zero (exitAtX s)
  rw [e, feed_record, first, if_pos rfl]

theorem entered_zero : (entered φ s).position (s.slotAt 63) = 0 := by
  rw [entered_position, position_slotAt s (by decide), if_pos rfl]

end

/-! ### Records after the arrivals -/

section
variable {φ : Fin 24} {w : State} {k : Fin 64}

/-- A record that does not come to J is left by the gate. -/
theorem advanced_away (away : (entered φ w).position k ≠ w.stationJ) :
    (advanced .forward φ w).record k = (forwardArrivals φ (entered φ w)).record k := by
  have quiet := arrivals_quiet φ w
  have J := (stations_congr (quiet.stations.trans (entered_stations φ w))).2.2.2.2
  rw [advanced_forward, gateArrival_record (.inl (by rw [quiet.position, J]; exact away))]

theorem advanced_position (φ : Fin 24) (w : State) (k : Fin 64) :
    (advanced .forward φ w).position k = (entered φ w).position k := by
  simp only [State.position, (advanced_track φ w).1, entered_origin]

theorem advanced_stationJ (φ : Fin 24) (w : State) : (advanced .forward φ w).stationJ = w.stationJ :=
  (stations_congr (advanced_track φ w).2.1).2.2.2.2

/-- The gate slot tells the verdict of the FINAL record at J, and NONE without one (R13). -/
theorem gateSlot_final {s : State} {v : Verdict} (at_J : s.position k = s.stationJ) (final : (s.record k).state = .final)
    (verdict : (s.record k).verdict = some v) : s.gateSlot = some v := by
  have track := position_lt s k
  have slot : s.slotAt s.stationJ = k := by rw [← at_J, slotAt_position]
  simp only [State.gateSlot, State.slotAtStation]
  rw [if_pos (by omega)]
  dsimp only
  rw [slot, if_pos final, verdict]

theorem gateSlot_none {s : State} (absent : ∀ k, s.position k = s.stationJ → (s.record k).state ≠ .final) :
    s.gateSlot = none := by
  simp only [State.gateSlot, State.slotAtStation]
  by_cases track : s.stationJ ≤ 63
  · rw [if_pos track]
    dsimp only
    rw [if_neg (absent _ (position_slotAt s (by omega)))]
  · rw [if_neg track]

/-- The gate takes nothing when no LOADED record comes to J. -/
theorem advanced_ungated (none : ∀ k, ((entered φ w).record k).state = .loaded → (entered φ w).position k ≠ w.stationJ) :
    advanced .forward φ w = forwardArrivals φ (entered φ w) := by
  have quiet := arrivals_quiet φ w
  have J := (stations_congr (quiet.stations.trans (entered_stations φ w))).2.2.2.2
  rw [advanced_forward]
  rcases gateArrival_cases (forwardArrivals φ (entered φ w)) with ⟨same, -⟩ | ⟨j, at_J, loaded, -⟩
  · exact same
  · rw [quiet.position, J] at at_J
    exact absurd at_J (none j (quiet.state j ▸ loaded))

/-- It gives the LOADED record that comes to J its verdict. -/
theorem advanced_gated (loaded : ((entered φ w).record k).state = .loaded) (at_J : (entered φ w).position k = w.stationJ) :
    advanced .forward φ w = giveVerdict k (forwardArrivals φ (entered φ w)) := by
  have quiet := arrivals_quiet φ w
  have J := (stations_congr (quiet.stations.trans (entered_stations φ w))).2.2.2.2
  rw [advanced_forward]
  rcases gateArrival_cases (forwardArrivals φ (entered φ w)) with ⟨-, none⟩ | ⟨j, there, -, given⟩
  · refine absurd ?_ (none k (by rw [quiet.state]; exact loaded))
    rw [quiet.position, J, at_J]
  · have own : j = k := State.Bonded.slot_of_position (s := forwardArrivals φ (entered φ w)) (by
      rw [there, J, quiet.position, at_J])
    rw [given, own]

end

/-- A node with a can on its track has a valid table. -/
theorem State.Accounted.ordered_of {s : State} (a : s.Accounted) {k : Fin 64} (there : (s.record k).state ≠ .empty) :
    s.Ordered := by
  refine .of_valid (a.table ?_)
  cases mode : s.nc.mode with
  | waitSync => exact absurd (a.empty (.inl mode) k) there
  | standby => exact absurd (a.empty (.inr mode) k) there
  | run => exact .inl rfl
  | drain => exact .inr (.inl rfl)
  | trip => exact .inr (.inr rfl)

/-- Settles O13: the records by their state after the move, and the gate slot by the record that comes to J. -/
theorem forwardMovesOrigin : Obligations.ForwardMovesOrigin := by
  refine ⟨fun ws f s read forward awake accounted => ?_, fun p k s => ⟨rfl, ?_, ?_⟩⟩
  · obtain ⟨t, run, transit, pass⟩ := exec_pass read forward awake
    have quiet := checked_quiet f s
    obtain ⟨-, serial, origin, stations, vu, -⟩ := checked_parts f s
    obtain ⟨originAfter, stationsAfter, -⟩ := advanced_track f.phase (checked f s)
    have recordIs (k : Fin 64) : t.record k = (advanced .forward f.phase (checked f s)).record k := by
      rw [State.record, pass.tu]
      rfl
    have J := (stations_congr stations).2.2.2.2
    have track : (checked f s).slotAt 63 = s.slotAt 63 := checked_slotAt f s 63
    have table (fed : fedFlag f.phase (checked f s) = true) : s.nc.mode = .run ∧ 1 ≤ s.stationJ := by
      obtain ⟨c, p, runs, -⟩ := entered_fed f.phase (checked f s) fed
      have was := (checked_run runs).1
      have ordered := State.Ordered.of_valid (accounted.table (.inl was))
      have := ordered.gate
      exact ⟨was, by omega⟩
    have held (hold : fedFlag f.phase (checked f s) = false) :
        (advanced .forward f.phase (checked f s)).record (s.slotAt 63) = Record.cleared := by
      obtain ⟨-, -, cleared, -⟩ := entered_held f.phase (checked f s) hold
      rw [track] at cleared
      exact (advanced_notLoaded f.phase (checked f s) (by rw [cleared]; decide)).trans cleared
    have stays {k : Fin 64} (away : k ≠ s.slotAt 63) (other : (s.record k).state = .final ∨ (s.record k).state = .empty) :
        (advanced .forward f.phase (checked f s)).record k = s.record k := by
      have notLoaded : (s.record k).state ≠ .loaded := by rcases other with e | e <;> rw [e] <;> decide
      have before : (checked f s).record k = s.record k := quiet.kept k notLoaded
      have moved := entered_record f.phase (checked f s) (k := k) (by rwa [track])
      rw [advanced_notLoaded f.phase (checked f s) (by rw [moved, before]; exact notLoaded), moved, before]
    have position (k : Fin 64) : (advanced .forward f.phase (checked f s)).position k =
        if s.position k = 63 then 0 else s.position k + 1 := by
      rw [advanced_position, entered_position, checked_position]
    have away {k : Fin 64} (short : s.position k ≠ 63) : k ≠ s.slotAt 63 := fun e =>
      short ((eq_slotAt_iff s k (by decide)).mp e)
    refine ⟨t, fedFlag f.phase (checked f s), (advanced .forward f.phase (checked f s)).gateSlot, run, ?_, ?_, ?_, ?_,
      fun k far other => (recordIs k).trans (stays far other), fun none => ?_, fun k v final verdict atJ => ?_⟩
    · rw [transit, passLead]
      generalize (advanced .forward f.phase (checked f s)).gateSlot = gate
      generalize fedFlag f.phase (checked f s) = fed
      rcases gate with _ | gate
      · cases fed <;> rfl
      · cases gate <;> cases fed <;> rfl
    · rw [pass.tu, originAfter, origin]
    · rw [pass.tu, stationsAfter, stations]
    · cases fed : fedFlag f.phase (checked f s) with
      | false => exact .inl ((recordIs _).trans (held fed))
      | true =>
        obtain ⟨was, above⟩ := table fed
        obtain ⟨c, p, -, -, e⟩ := entered_fed f.phase (checked f s) fed
        have first := entered_first f.phase (checked f s) e
        have zero := entered_zero f.phase (checked f s)
        rw [track] at first zero
        have grows := (arrivals_quiet f.phase (checked f s)).grows (s.slotAt 63)
        rw [recordIs, advanced_away (by omega), grows.state, grows.serial, first]
        exact .inr ⟨was, rfl, serial⟩
    · refine gateSlot_none fun k there final => ?_
      rw [position, advanced_stationJ, J] at there
      by_cases last : s.position k = 63
      · rw [if_pos last] at there
        cases fed : fedFlag f.phase (checked f s) with
        | false =>
          have own : k = s.slotAt 63 := (eq_slotAt_iff s k (by decide)).mpr last
          rw [own, held fed] at final
          cases final
        | true =>
          have := (table fed).2
          omega
      · rw [if_neg last] at there
        have empty := none k there
        rw [stays (away last) (.inr empty), empty] at final
        cases final
    · have last : s.position k ≠ 63 := fun last => by
        have := (accounted.ordered_of (k := k) (by rw [final]; decide)).last
        omega
      have same := stays (away last) (.inl final)
      refine ⟨gateSlot_final (k := k) ?_ (by rw [same]; exact final) (by rw [same]; exact verdict), fun j => ?_⟩
      · rw [position, if_neg last, advanced_stationJ, J, atJ]
      · have ungated : advanced .forward f.phase (checked f s) = forwardArrivals f.phase (entered f.phase (checked f s)) := by
          refine advanced_ungated fun i loaded there => ?_
          have own : i = k := State.Bonded.slot_of_position (s := advanced .forward f.phase (checked f s)) (by
            rw [advanced_position, there, position, if_neg last, J, atJ])
          have moved := entered_record f.phase (checked f s) (k := k) (by rw [track]; exact away last)
          rw [own, moved, quiet.state] at loaded
          exact nomatch final.symm.trans loaded
        obtain ⟨passed, rejected, sampled, -⟩ := entered_tally f.phase (checked f s) j
        rw [pass.vu, ungated, (arrivals_quiet f.phase (checked f s)).vu]
        rw [vu] at passed rejected sampled
        exact ⟨passed, rejected, sampled⟩
  · have o := s.tu.origin.isLt
    have b := k.isLt
    rw [position_eq]
    omega
  · refine List.ext_getElem (by simp) fun i short _ => ?_
    have short : i < 7 := short
    interval_cases i <;> simp [State.stationE, State.stationG, State.stationC, State.stationR, State.stationK,
      State.stationW, State.stationJ]

end Sys2Proof.Machine
end

-- ==== Proofs: the can fed and the can judged ====
section
/-! PROOF. The record that a FEED makes (R28 to R30) and the verdict at J (R90 to R95, R101), through an advance in which a full
queue may trip the node (R148). -/

namespace Sys2Proof.Machine

/-! ### The gate's account -/

theorem giveVerdict_tally (k : Fin 64) (s : State) (j : Fin 8) : (giveVerdict k s).vu.tallies[j] =
    if j = (s.record k).recipe then (s.vu.tallies[j]).count (s.verdictFor k) else s.vu.tallies[j] := by
  have same : (s.setRecord k (s.judged k)).vu = s.vu := rfl
  rw [giveVerdict_eq, rearmIf_tallies, lowerInUse_vu, tally_onTally, same]
  split
  next own => rw [own]
  next => rfl

theorem giveVerdict_rs (k : Fin 64) (s : State) : (giveVerdict k s).rs = s.rs.lowered (s.record k).recipe := by
  rw [giveVerdict_eq, rearmIf_rs, lowerInUse_eq]
  rfl

theorem gateArrival_admitted (s : State) (j : Fin 8) :
    ((gateArrival s).vu.tallies[j]).admitted = (s.vu.tallies[j]).admitted := by
  rcases gateArrival_cases s with ⟨same, -⟩ | ⟨k, -, -, given⟩
  · rw [same]
  · rw [given, giveVerdict_tally]
    split
    · exact count_admitted _ _
    · rfl

/-- The tallies that a verdict raises and those that it leaves. -/
theorem count_fields (t : Tally) (v : Verdict) (own : Bool) :
    ((if own = true then t.count v else t).passed = t.passed + (if v = .pass ∧ own = true then 1 else 0) ∧
      (if own = true then t.count v else t).rejected = t.rejected + (if v = .reject ∧ own = true then 1 else 0) ∧
      (if own = true then t.count v else t).sampled = t.sampled + (if v = .sample ∧ own = true then 1 else 0)) ∧
    (if own = true then t.count v else t).backedOut = t.backedOut := by
  cases own
  · simp
  · cases v <;> simp [Tally.count]

/-! ### The mode at the end of an advance -/

section
variable {φ : Fin 24} {w t : State}

/-- A trip during the advance outlasts it. -/
theorem ForwardPass.tripped (pass : ForwardPass φ w t) (trip : (forwardArrivals φ (entered φ w)).nc.mode = .trip) :
    t.nc.mode = .trip := by
  have gate := (gateArrival_mode (forwardArrivals φ (entered φ w))).1
  rw [← advanced_forward] at gate
  rcases pass.store with ⟨mode, -⟩ | ⟨drain, -⟩
  · exact mode.trans (gate.trans trip)
  · exact nomatch drain.symm.trans (gate.trans trip)

theorem ForwardPass.record (pass : ForwardPass φ w t) (k : Fin 64) : t.record k = (advanced .forward φ w).record k := by
  rw [State.record, pass.tu]
  rfl

/-- With a can left on the track, no drain ends. -/
theorem ForwardPass.rs_of_can (pass : ForwardPass φ w t) {k : Fin 64} (can : ((advanced .forward φ w).record k).state ≠ .empty) :
    t.rs = (advanced .forward φ w).rs := by
  rcases pass.store with ⟨-, same⟩ | ⟨-, empty, -⟩
  · exact same
  · exact absurd ((allEmpty_iff _).mp empty k) can

end

/-- Settles O17: the feed of R28, through arrivals that can only mark its record by a trip. -/
theorem feedLoadsRecord : Obligations.FeedLoadsRecord := by
  intro ws f s c p k h read forward awake inRun follows joined arrived code recipe head slot parked enabled sound
  obtain rfl : recipeOf p = k := Fin.ext recipe.symm
  obtain rfl : s.predictedHead f.phase = h := Fin.ext head.symm
  obtain ⟨t, run, transit, pass⟩ := exec_pass read forward awake
  have long : 4 ≤ ws.length := by rw [length_index read]; decide
  have ordered := joined.ordered (.inl inRun)
  have bonded := adopted_bonded joined.bonded f
  have accounted := adopted_accounted joined.accounted f
  rw [checked_follows follows] at transit pass
  have usable : s.usable (s.predictedHead f.phase) = true := by
    simp only [State.usable, enabled, Bool.true_and, bne_iff_ne]
    exact sound
  have decision : (adopt f (restartGap s)).feedDecision f.phase = .feed c p :=
    (feedDecision_feed ..).mpr ⟨arrived, code, slot, closing_eq_false.mpr parked, usable⟩
  obtain ⟨fed, e⟩ := entered_feed f.phase (adopt f (restartGap s)) inRun decision
  have first := entered_first f.phase (adopt f (restartGap s)) e
  have zero := entered_zero f.phase (adopt f (restartGap s))
  have start := bonded.entered accounted f.phase
  have stations := entered_stations f.phase (adopt f (restartGap s))
  obtain ⟨-, -, serialAfter, candidateAfter⟩ := advanced_track f.phase (adopt f (restartGap s))
  have slotIs : (adopt f (restartGap s)).slotAt 63 = s.slotAt 63 := rfl
  have J : (adopt f (restartGap s)).stationJ = s.stationJ := rfl
  rw [slotIs] at first zero
  have below := ordered.first
  have gate : (entered f.phase (adopt f (restartGap s))).position (s.slotAt 63) ≠ (adopt f (restartGap s)).stationJ := by
    have := ordered.gate
    omega
  have aloof := start.arrivals_aloof f.phase (k := s.slotAt 63) (by rw [first]; rfl) (by
    have E := (stations_congr stations).1
    have E' : (adopt f (restartGap s)).stationE = s.stationE := rfl
    omega)
  have kept := (pass.record _).trans (advanced_away gate)
  have quiet := arrivals_quiet f.phase (adopt f (restartGap s))
  have loaded : (t.record (s.slotAt 63)).state = .loaded := by
    rw [kept, aloof.quiet.state, first]
    rfl
  obtain ⟨causes, found, record⟩ : ∃ causes, (causes = 0 ∨ (causes = addCause .tripped 0 ∧ t.nc.mode = .trip)) ∧
      t.record (s.slotAt 63) = { (originForward (exitAtX (adopt f (restartGap s)))).firstRecord f.phase c p with
        causes := causes } := by
    rcases aloof.record with same | ⟨trip, marked⟩
    · exact ⟨0, .inl rfl, kept.trans (same.trans first)⟩
    · refine ⟨addCause .tripped 0, .inr ⟨rfl, pass.tripped trip⟩, kept.trans (marked.trans ?_)⟩
      rw [first]
      rfl
  refine ⟨t, _, causes, run, transit, (passLead_slots long ..).1.trans fed, ?_, ?_, found, record, ?_, fun absent => ?_⟩
  · rw [pass.candidate, candidateAfter, e]
    rfl
  · rw [pass.tu, serialAfter, e]
    rfl
  · rw [pass.vu, advanced_forward, gateArrival_admitted, quiet.vu, e, feed_tallies, tally_onTally, if_pos rfl]
    rfl
  · have ungated := advanced_ungated (φ := f.phase) (w := adopt f (restartGap s)) fun j there at_J => by
      have away : j ≠ s.slotAt 63 := by
        rintro rfl
        exact gate at_J
      have short : s.position j ≠ 63 := fun x => away ((eq_slotAt_iff s j (by decide)).mpr x)
      have moved := entered_position f.phase (adopt f (restartGap s)) j
      have here : (adopt f (restartGap s)).position j = s.position j := rfl
      rw [entered_record f.phase (adopt f (restartGap s)) away] at there
      rw [here, if_neg short, at_J, J] at moved
      exact absent j there moved.symm
    have rs := pass.rs_of_can (k := s.slotAt 63) (by rw [← pass.record, loaded]; decide)
    have vu := pass.vu
    rw [ungated, quiet.rs, e] at rs
    rw [ungated, quiet.vu, e] at vu
    refine ⟨?_, ?_⟩
    · have raised := feed_inUse f.phase c p (originForward (exitAtX (adopt f (restartGap s)))) (recipeOf p)
      rw [if_pos rfl] at raised
      rw [State.inUse, rs]
      exact raised
    · rw [vu]
      rfl

/-! ### The verdict at J -/

/-- The bands read the recipe words alone (R92). -/
theorem bandCauses_congr {s t : State} (words : ∀ k w, t.recipeWord k w = s.recipeWord k w) (r : Record) :
    bandCauses t r = bandCauses s r := by
  have same (k : Fin 8) : t.recipeWord k = s.recipeWord k := funext (words k)
  simp only [bandCauses, same]

/-- A LOADED record that comes to J is bound to no head. -/
theorem State.Joined.unbound_beforeGate {s : State} (j : s.Joined) {k : Fin 64} (ordered : s.Ordered)
    (at_J : s.position k + 1 = s.stationJ) : (s.record k).bound = false := by
  cases bound : (s.record k).bound with
  | false => rfl
  | true =>
    obtain ⟨-, h, -, link⟩ := j.joinedRecord k bound
    obtain ⟨-, -, -, -, below⟩ := j.joinedHead h _ link
    have below : s.position k < s.stationR := below
    have := ordered.afterRelease
    have := ordered.crimped
    have := ordered.gate
    omega

/-- The causes with which a record comes to J: its own, with TRIPPED when the same frame tripped the node. -/
theorem arrives_atJ {f : IndexFrame} {s : State} {k : Fin 64} (joined : s.Joined) (loaded : (s.record k).state = .loaded)
    (at_J : s.position k + 1 = s.stationJ) : ∃ held,
      (held = (s.record k).causes ∨ (held = addCause .tripped (s.record k).causes ∧
        (forwardArrivals f.phase (entered f.phase (checked f s))).nc.mode = .trip)) ∧
      (forwardArrivals f.phase (entered f.phase (checked f s))).record k = { s.record k with causes := held } := by
  have ordered := joined.accounted.ledger.ordered_loaded loaded
  have unbound := joined.unbound_beforeGate ordered at_J
  obtain ⟨far, short⟩ := loaded_away joined.accounted loaded
  have checks := checked_aloof f unbound
  have moved : (entered f.phase (checked f s)).record k = (checked f s).record k :=
    entered_record f.phase (checked f s) (by rw [checked_slotAt]; exact far)
  have position : (entered f.phase (checked f s)).position k = s.stationJ := by
    rw [entered_position, checked_position, if_neg short, at_J]
  have stations := (entered_stations f.phase (checked f s)).trans (checked_quiet f s).stations
  have start := (checked_bonded joined.bonded f).entered (checked_accounted joined.accounted f) f.phase
  have arrivals := start.arrivals_aloof f.phase (k := k) (by rw [moved]; exact checks.unbound unbound) (by
    have R := (stations_congr stations).2.2.2.1
    have R' : (adopt f (restartGap s)).stationR = s.stationR := rfl
    have := ordered.afterRelease
    have := ordered.crimped
    have := ordered.gate
    omega)
  have mode := (entered_mode f.phase (checked f s)).1
  have base : (adopt f (restartGap s)).record k = s.record k := rfl
  have before := checks.record
  rw [base] at before
  have after := arrivals.record
  rw [moved] at after
  have resting (trip : (checked f s).nc.mode = .trip) :
      (forwardArrivals f.phase (entered f.phase (checked f s))).nc.mode = .trip :=
    (arrivals.quiet.mode_resting (by simp [State.working, mode, trip])).1.trans (mode.trans trip)
  rcases before with same | ⟨trip, marked⟩
  · rw [same] at after
    rcases after with still | ⟨trip, marked⟩
    · exact ⟨_, .inl rfl, still⟩
    · exact ⟨_, .inr ⟨rfl, trip⟩, marked⟩
  · rw [marked] at after
    refine ⟨_, .inr ⟨rfl, resting trip⟩, ?_⟩
    rcases after with still | ⟨-, again⟩
    · exact still
    · exact again.trans (marked_marked _)

/-- The recipe store and the Sample List with the can that a frame feeds (R28, R30). -/
theorem entered_counts (φ : Fin 24) (s : State) {i : Fin 8} {h : Fin 24}
    (recipe : ((entered φ s).record (s.slotAt 63)).recipe = i)
    (predicted : ((entered φ s).record (s.slotAt 63)).predicted = h) :
    (entered φ s).rs = (if fedFlag φ s = true
      then { s.rs with inUse := s.rs.inUse.set i (s.inUse i + 1) } else s.rs) ∧
    (entered φ s).vu.samples = (if fedFlag φ s = true
      then s.vu.samples.eraseP (fun q => q.kind.isFor i h) else s.vu.samples) := by
  cases fed : fedFlag φ s with
  | false =>
    obtain ⟨-, -, -, vu, rs⟩ := entered_held φ s fed
    rw [vu, rs]
    exact ⟨rfl, rfl⟩
  | true =>
    obtain ⟨c, p, -, -, e⟩ := entered_fed φ s fed
    rw [entered_first φ s e] at recipe predicted
    obtain rfl : recipeOf p = i := recipe
    obtain rfl : (originForward (exitAtX s)).predictedHead φ = h := predicted
    rw [e]
    exact ⟨rfl, rfl⟩

/-- The request of a record that is given its verdict: a REJECT returns it (R101). -/
theorem giveVerdict_samples (k : Fin 64) (s : State) :
    (s.verdictFor k ≠ .reject ∨ (s.record k).sample = none → (giveVerdict k s).vu.samples = s.vu.samples) ∧
    (s.verdictFor k = .reject → ∀ q, (s.record k).sample = some q →
      (s.vu.samples.length < 4 → (giveVerdict k s).vu.samples = q :: s.vu.samples) ∧
      (4 ≤ s.vu.samples.length → (giveVerdict k s).vu.samples = s.vu.samples ∧
        hasAlert .sampleLost (giveVerdict k s).nc.alerts = true)) := by
  have given := giveVerdict_eq k s
  have samples : (lowerInUse (s.record k).recipe
      (onTally (s.record k).recipe (·.count (s.verdictFor k)) (s.setRecord k (s.judged k)))).vu.samples = s.vu.samples := by
    rw [lowerInUse_vu]
    rfl
  generalize lowerInUse (s.record k).recipe
    (onTally (s.record k).recipe (·.count (s.verdictFor k)) (s.setRecord k (s.judged k))) = u at given samples
  refine ⟨fun keeps => ?_, fun reject q request => ?_⟩
  · have none : (if s.verdictFor k = .reject then (s.record k).sample else none) = none := by
      split
      next reject => exact keeps.resolve_left fun away => away reject
      next => rfl
    rw [given, none, rearmIf_none, samples]
  · rw [if_pos reject, request] at given
    rw [given, ← samples]
    exact ⟨rearmIf_room, rearmIf_full⟩

theorem Record.Grows.predicted {a b : Record} (x : a.Grows b) : b.predicted = a.predicted :=
  congrArg (·.2.2.2.2.1) x.card

/-- The verdict of a record with the words of its recipe slot in another state (R94). -/
theorem verdictFor_congr {s t : State} {k : Fin 64} {r : Record} (words : ∀ i w, t.recipeWord i w = s.recipeWord i w)
    (record : t.record k = r) : t.verdictFor k =
      if bandCauses s r ≠ 0 then .reject else if r.sample.isSome = true then .sample else .pass := by
  rw [State.verdictFor, record, bandCauses_congr words]
  rfl

/-- Settles O23: the arrival at J after the arrivals at the turret, with the causes that the record then holds. -/
theorem verdictAtGate : Obligations.VerdictAtGate := by
  intro ws f k s read forward awake joined loaded at_J
  obtain ⟨t, run, transit, pass⟩ := exec_pass read forward awake
  obtain ⟨feeds, gates⟩ := passLead_slots (by rw [length_index read]; decide : 4 ≤ ws.length) f.phase (checked f s) t
  obtain ⟨held, which, record⟩ := arrives_atJ (f := f) joined loaded at_J
  obtain ⟨far, short⟩ := loaded_away joined.accounted loaded
  obtain ⟨-, -, -, stations, vu, rs⟩ := checked_parts f s
  have quiet := arrivals_quiet f.phase (checked f s)
  have J := (stations_congr stations).2.2.2.2
  have first := checked_slotAt f s 63
  have position : (entered f.phase (checked f s)).position k = (checked f s).stationJ := by
    rw [entered_position, checked_position, if_neg short, at_J, J]
  have there : ((entered f.phase (checked f s)).record k).state = .loaded := by
    rw [← quiet.state, record]
    exact loaded
  have given := advanced_gated there position
  have words (i : Fin 8) (w : Fin 16) :
      (forwardArrivals f.phase (entered f.phase (checked f s))).recipeWord i w = s.recipeWord i w := by
    rw [quiet.recipeWord, entered_words, (checked_quiet f s).recipeWord]
    rfl
  have verdict := verdictFor_congr words record
  have judged : (advanced .forward f.phase (checked f s)).record k =
      (forwardArrivals f.phase (entered f.phase (checked f s))).judged k := by
    rw [given, State.Accounted.giveVerdict_record, if_pos rfl]
  have gate : (advanced .forward f.phase (checked f s)).gateSlot =
      some ((forwardArrivals f.phase (entered f.phase (checked f s))).verdictFor k) := by
    refine gateSlot_final (k := k) ?_ (by rw [judged]; rfl) (by rw [judged]; rfl)
    rw [advanced_position, advanced_stationJ, position]
  have fed : (advanced .forward f.phase (checked f s)).record (s.slotAt 63) =
      (forwardArrivals f.phase (entered f.phase (checked f s))).record (s.slotAt 63) := by
    rw [given, State.Accounted.giveVerdict_record, if_neg (Ne.symm far)]
  have grows := quiet.grows (s.slotAt 63)
  obtain ⟨store, list⟩ := entered_counts f.phase (checked f s) (i := (t.record (s.slotAt 63)).recipe)
    (h := (t.record (s.slotAt 63)).predicted) (by rw [first, pass.record, fed, grows.recipe])
    (by rw [first, pass.record, fed, grows.predicted])
  have inUse : (checked f s).inUse (t.record (s.slotAt 63)).recipe = s.inUse (t.record (s.slotAt 63)).recipe :=
    (checked_quiet f s).inUse _
  rw [rs, inUse, ← feeds] at store
  rw [vu, ← feeds] at list
  have rsAfter := pass.rs_of_can (k := k) (by rw [judged]; exact nofun)
  rw [given, giveVerdict_rs, quiet.rs, record] at rsAfter
  have vuAfter := pass.vu
  have alerts := pass.alerts
  rw [given] at vuAfter alerts
  obtain ⟨keeps, returns⟩ := giveVerdict_samples k (forwardArrivals f.phase (entered f.phase (checked f s)))
  have tally (j : Fin 8) := giveVerdict_tally k (forwardArrivals f.phase (entered f.phase (checked f s))) j
  have before (j : Fin 8) := entered_tally f.phase (checked f s) j
  rw [record, quiet.vu, list] at keeps returns
  simp only [record, quiet.vu] at tally
  simp only [vu] at before
  have final : t.record k = { s.record k with
      state := .final
      causes := bandCauses s { s.record k with causes := held }
      verdict := some ((forwardArrivals f.phase (entered f.phase (checked f s))).verdictFor k)
      sample := if (forwardArrivals f.phase (entered f.phase (checked f s))).verdictFor k = .reject then none
        else (s.record k).sample } := by
    rw [pass.record, judged, State.judged, record, bandCauses_congr words]
  have away (mode : s.nc.mode ≠ .run) : fedFlag f.phase (checked f s) = false :=
    fedFlag_away _ _ fun run => mode (checked_run run).1
  have causes : held = (s.record k).causes ∨ (held = addCause .tripped (s.record k).causes ∧ t.nc.mode = .trip) :=
    which.imp_right fun ⟨marked, trip⟩ => ⟨marked, pass.tripped trip⟩
  rw [gate] at gates
  refine ⟨t, _, held, _, (forwardArrivals f.phase (entered f.phase (checked f s))).verdictFor k, t.record (s.slotAt 63), _, _,
    run, transit, causes, rfl, verdict, final, ?_, fun j => ?_, fun mode => feeds.trans (away mode), rfl, rfl, rfl, ?_, ?_, ?_⟩
  · refine gates.trans ?_
    cases (forwardArrivals f.phase (entered f.phase (checked f s))).verdictFor k <;> rfl
  · have counted := count_fields ((entered f.phase (checked f s)).vu.tallies[j])
      ((forwardArrivals f.phase (entered f.phase (checked f s))).verdictFor k) (decide (j = (s.record k).recipe))
    simp only [decide_eq_true_eq, ← tally] at counted
    rw [← vuAfter] at counted
    obtain ⟨⟨passed, rejected, sampled⟩, backedOut⟩ := counted
    obtain ⟨passed', rejected', sampled', backedOut'⟩ := before j
    exact ⟨passed.trans (congrArg (· + _) passed'), rejected.trans (congrArg (· + _) rejected'),
      sampled.trans (congrArg (· + _) sampled'), backedOut.trans backedOut'⟩
  · rw [rsAfter, store]
  · exact fun kept => (congrArg (·.samples) vuAfter).trans (keeps kept)
  · intro reject q request
    rw [vuAfter, alerts]
    exact returns reject q request

end Sys2Proof.Machine
end

-- ==== Proofs: the recipe words in use and the verdicts that stand ====
section
/-! PROOF. What an event can be to the Recipe Store and to the FINAL records, said once for the 37 commands; from it that a slot
in use keeps its words (R109) and that a FINAL record keeps its verdict (R94, R95). -/

namespace Sys2Proof.Machine

/-! ### The turns of the store and the ring -/

/-- The Recipe Store stays, and so does every record that is not LOADED. -/
structure Rests (s t : State) : Prop where
  rs : t.rs = s.rs
  kept : ∀ k, (s.record k).state ≠ .loaded → t.record k = s.record k

namespace Rests
variable {s t u : State}

theorem of_same (rs : t.rs = s.rs) (ring : t.tu.ring = s.tu.ring) : Rests s t :=
  ⟨rs, fun k _ => congrArg (·[k]) ring⟩

theorem trans (x : Rests s t) (y : Rests t u) : Rests s u :=
  ⟨y.rs.trans x.rs, fun k h => (y.kept k (by rwa [x.kept k h])).trans (x.kept k h)⟩

theorem of_quiet {C : TripCause → Prop} (q : Quiet C s t) : Rests s t := ⟨q.rs, q.kept⟩

theorem takeReport (s : State) (r : Report) : Rests s (takeReport s r) := by
  cases r with
  | infeed => exact of_same rfl rfl
  | event h k lag => exact of_quiet (Quiet.takeEvent h k lag s)
  | flow h n => exact of_quiet (Quiet.takeFlow h n s)
  | measure k ok slot serial v => exact of_quiet (Quiet.takeMeasure k ok slot serial v s)

theorem reports (rs : List Report) (s : State) : Rests s (rs.foldl Machine.takeReport s) := by
  induction rs generalizing s with
  | nil => exact of_same rfl rfl
  | cons r rs ih => exact (takeReport s r).trans (ih _)

theorem takeVent (vent : Bool) (s : State) : Rests s (takeVent vent s) :=
  of_quiet (Quiet.takeVent (C := fun _ => True) (fun _ => trivial) s)

theorem passBypass (ws : List Word) (s : State) : Rests s (passBypass ws s) := by
  unfold Machine.passBypass
  split
  · exact of_same rfl rfl
  · exact of_same rfl rfl

theorem departFrame (x : TransitFrame) (s : State) : Rests s (departFrame x s) := by
  cases x with
  | unchanged ws => exact of_same rfl rfl
  | reply lead => exact of_same rfl rfl
  | accepted lead =>
    have sent : Rests s (departCommands s) := of_quiet (Quiet.departCommands (C := onlyFull) s)
    exact sent.trans (of_same rfl rfl)

theorem departOldest (s : State) : Rests s (departOldest s) := by
  unfold Machine.departOldest
  cases s.lp.transit with
  | nil => exact of_same rfl rfl
  | cons x rest =>
    have taken : Rests s { s with lp.transit := rest } := of_same rfl rfl
    exact taken.trans (departFrame x _)

theorem gapExpiry (s : State) : Rests s (gapExpiry s) := by
  unfold Machine.gapExpiry
  split
  · have expired : Rests s { s with lp.gapTimer := .expired } := of_same rfl rfl
    exact expired.trans (of_quiet (Quiet.requestTrip (C := fun _ => True) trivial _))
  · exact of_same rfl rfl

end Rests

/-- What an event is to the store and the ring: they rest, an advance was taken, a request was served, or contents were
cleared. -/
inductive Turn (s : State) : State → Prop where
  | rests {t : State} (rest : Rests s t) : Turn s t
  | advance {t : State} (x : Advance) (f : IndexFrame) (rs : t.rs = (takeAdvance x f.phase (checked f s)).2.rs)
      (tu : t.tu = (advanced x f.phase (checked f s)).tu) : Turn s t
  | request {w u t : State} (before : Rests s w) (served : Served w u) (after : Rests u t) : Turn s t
  | clear : Turn s (completeClear s)
  | reset : Turn s (completeReset s)
  | cold : Turn s (coldReset s)

theorem arrives_turn {s t : State} (arrival : Arrives s t) : Turn s t := by
  have restart : Rests s (restartGap s) := .of_same rfl rfl
  cases arrival with
  | passes ws => exact .rests (.passBypass ws s)
  | forwarded ws => exact .rests (.of_same rfl rfl)
  | damaged ws =>
    have alerted : Rests s (raiseAlert .frameDamaged (restartGap s)) := .of_same rfl rfl
    have lost := alerted.trans (.of_quiet (Quiet.frameLoss (C := onlyFull) _))
    exact .rests (lost.trans (.of_same (putTransit_rs _ _) (congrArg (·.ring) (putTransit_tu _ _))))
  | index f ws =>
    have taken : takeIndex f ws (restartGap s) =
        putTransit (.accepted (indexLead ws (takeAdvance f.advance f.phase (checked f s)).1))
          (takeAdvance f.advance f.phase (checked f s)).2 := rfl
    rw [taken]
    exact .advance f.advance f (putTransit_rs _ _)
      ((putTransit_tu _ _).trans (takeAdvance_after f.advance f.phase (checked f s)).2.2)
  | report f ws =>
    have told := (restart.trans (.takeVent f.vent _)).trans (.reports f.reports _)
    exact .rests (told.trans (.of_same (putTransit_rs _ _) rfl))
  | carrier vent ws => exact .rests ((restart.trans (.takeVent _ _)).trans (.of_same rfl rfl))
  | request f held => exact .request restart (takeRequest_served _ _) (.of_same rfl rfl)
  | wake f held => exact .request (.of_same rfl rfl) (takeRequest_served _ _) (.of_same rfl rfl)

theorem exec_turn {c : Instr} {s t : State} (taken : exec c s = .next t) : Turn s t := by
  cases happens_of_exec taken with
  | cold => exact .cold
  | release straps =>
    refine .rests ?_
    unfold releasePin
    split
    · exact .of_same rfl rfl
    · exact .of_same rfl rfl
  | tick =>
    refine .rests ?_
    unfold tick
    split
    · exact .of_same rfl rfl
    · exact .of_same rfl rfl
  | frame _ ws => exact arrives_turn (frameArrival_arrives ws s)
  | departure => exact .rests (.departOldest s)
  | gap => exact .rests (.gapExpiry s)
  | charge => exact .rests (.of_quiet (Quiet.nextChargeExpiry s))
  | clear => exact .clear
  | reset => exact .reset

/-! ### The words of a slot in use (R109) -/

/-- Store b follows store a with a slot's words changed only when no can of it is in use in b. -/
def RecipeStore.Settles (a b : RecipeStore) : Prop :=
  ∀ k w, b.words[recipeIndex k w] = a.words[recipeIndex k w] ∨ b.inUse[k] = 0

namespace RecipeStore
variable {a b : RecipeStore}

theorem Settles.of_words (same : b.words = a.words) : a.Settles b := fun _ _ => .inl (by rw [same])

/-- An application stores nothing in a slot in use (R114). -/
theorem applyParked_word {k : Fin 8} (used : b.inUse[k] ≠ 0) (slots : Fin 8 → Bool) (w : Fin 16) :
    (b.applyParked slots).words[recipeIndex k w] = b.words[recipeIndex k w] := by
  have none : ((b.parkList.take b.outside).filter (b.applies slots)).filter (fun e => e.slot == k && e.word == w) = [] := by
    refine List.filter_eq_nil_iff.mpr fun e applied own => ?_
    obtain ⟨slot, -⟩ : e.slot = k ∧ e.word = w := by simpa using own
    have free := (List.mem_filter.mp applied).2
    simp only [applies, slot, Bool.and_eq_true, beq_iff_eq] at free
    exact used free.2
  simp only [applyParked, foldl_storeEntry_word, none]
  rfl

theorem Settles.applied (x : a.Settles b) (slots : Fin 8 → Bool) : a.Settles (b.applyParked slots) := by
  intro k w
  by_cases used : b.inUse[k] = 0
  · exact .inr used
  · exact .inl ((applyParked_word used slots w).trans ((x k w).resolve_right used))

theorem Settles.lowered (same : b.words = a.words) (j : Fin 8) : a.Settles (b.lowered j) := by
  have fallen : a.Settles { b with inUse := b.inUse.set j (b.inUse[j] - 1) } := .of_words same
  unfold RecipeStore.lowered
  dsimp only
  split
  · exact fallen.applied _
  · exact fallen

end RecipeStore

theorem Served.settles {s t : State} (request : Served s t) : s.rs.Settles t.rs := by
  have still : s.rs.Settles s.rs := .of_words rfl
  induction request with
  | woken => exact still.applied _
  | standby => exact still.applied _
  | clearTrip => exact still.applied _
  | scopeClosed =>
    have closed : s.rs.Settles { s.rs with scope := none } := .of_words rfl
    exact closed.applied _
  | recipe e outside free =>
    intro k w
    rw [storeEntry_word]
    by_cases own : e.slot = k
    · exact .inr (own ▸ free)
    · exact .inl (if_neg (by simp [own]))
  | moved _ _ ih => exact ih
  | enabled hs => exact .of_words (congrArg _ (Quiet.foldl (C := onlyFull) Quiet.enableHead hs s).rs)
  | disabled hs => exact .of_words (congrArg _ (Quiet.foldl (C := onlyFull) Quiet.disableHead hs s).rs)
  | stopped hs => exact .of_words (congrArg _ (Quiet.stopHeads hs s).rs)
  | _ => exact .of_words rfl

/-- The store after an advance: at most one feed is counted before at most one count falls. -/
theorem advanced_settles (x : Advance) (φ : Fin 24) (w : State) : w.rs.Settles (advanced x φ w).rs := by
  cases x with
  | forward =>
    have words : (entered φ w).rs.words = w.rs.words := by
      cases fed : fedFlag φ w with
      | false =>
        obtain ⟨-, -, -, -, rs⟩ := entered_held φ w fed
        rw [rs]
      | true =>
        obtain ⟨c, p, -, -, e⟩ := entered_fed φ w fed
        rw [e]
        rfl
    have arrived : (forwardArrivals φ (entered φ w)).rs.words = w.rs.words := by
      rw [(arrivals_quiet φ w).rs, words]
    rw [advanced_forward]
    rcases gateArrival_cases (forwardArrivals φ (entered φ w)) with ⟨same, -⟩ | ⟨k, -, -, given⟩
    · rw [same]
      exact .of_words arrived
    · rw [given, giveVerdict_rs]
      exact .lowered arrived _
  | reverse =>
    have moved : (originReverse (backOut w)).rs = (backOut w).rs := rfl
    rw [advanced_reverse, (Quiet.jogBackArrival _).rs, moved, backOut_rs]
    split
    · exact .lowered rfl _
    · exact .of_words rfl
  | dwell => exact .of_words rfl

theorem takeAdvance_settles (x : Advance) (φ : Fin 24) (w : State) : w.rs.Settles (takeAdvance x φ w).2.rs := by
  have moved := advanced_settles x φ w
  rw [takeAdvance_state]
  rcases endDrain_store (advanced x φ w) with ⟨-, same⟩ | ⟨-, -, applied⟩
  · rw [same]
    exact moved
  · rw [applied]
    exact moved.applied _

/-- With no can on the track no slot is in use (R108). -/
theorem State.Accounted.unused {s : State} (a : s.Accounted) (empty : ∀ k, (s.record k).state = .empty) (k : Fin 8) :
    s.inUse k = 0 := (a.inUse k).trans (loadedOf_empty empty k)

/-- The cold reset leaves no can (R140). -/
theorem coldReset_empty {s : State} (a : s.Accounted) (k : Fin 64) : ((coldReset s).record k).state = .empty :=
  (State.Accounted.invariant.cold s a).empty (.inl rfl) k

/-- CLEAR WINDOW clears the recipe window in STANDBY alone (R160). -/
theorem completeClear_settles {s : State} (legal : s.ModesLegal) (a : s.Accounted) : s.rs.Settles (completeClear s).rs := by
  unfold completeClear
  split
  next target since busy =>
    split
    · cases target with
      | trim => exact .of_words rfl
      | recipe => exact fun k _ => .inr (a.unused (a.empty (.inr (legal.clearing since busy))) k)
      | sample => exact .of_words rfl
    · exact .of_words rfl
  all_goals exact .of_words rfl

theorem completeReset_settles (s : State) : s.rs.Settles (completeReset s).rs := by
  unfold completeReset
  split
  · split
    · exact fun k _ => .inr (warmReset_inUse s k)
    · exact .of_words rfl
  all_goals exact .of_words rfl

/-- Settles O52: by the turns of the store. -/
theorem recipeWordsFixedInUse : Obligations.RecipeWordsFixedInUse := by
  intro c s t k w legal accounted taken changed
  have settles : s.rs.Settles t.rs := by
    cases exec_turn taken with
    | rests rest => exact .of_words (congrArg _ rest.rs)
    | advance x f rs =>
      rw [rs, ← (checked_parts f s).2.2.2.2.2]
      exact takeAdvance_settles x f.phase (checked f s)
    | request before served after =>
      rw [after.rs, ← before.rs]
      exact served.settles
    | clear => exact completeClear_settles legal accounted
    | reset => exact completeReset_settles s
    | cold =>
      have cold := State.Accounted.invariant.cold s accounted
      exact fun k _ => .inr (cold.unused (coldReset_empty accounted) k)
  exact (settles k w).resolve_left changed

/-! ### The verdicts that stand (R94, R95) -/

theorem Served.kept {s t : State} (request : Served s t) {k : Fin 64} (other : (s.record k).state ≠ .loaded) :
    t.record k = s.record k := by
  induction request with
  | enabled hs => exact (Quiet.foldl (C := onlyFull) Quiet.enableHead hs s).kept k other
  | disabled hs => exact (Quiet.foldl (C := onlyFull) Quiet.disableHead hs s).kept k other
  | stopped hs => exact (Quiet.stopHeads hs s).kept k other
  | moved _ _ ih => exact ih
  | _ => rfl

theorem completeClear_record (s : State) (k : Fin 64) : (completeClear s).record k = s.record k := by
  unfold completeClear
  split
  next target _ _ =>
    split
    · cases target with
      | trim => rfl
      | recipe => rfl
      | sample => rfl
    · rfl
  all_goals rfl

theorem completeReset_record (s : State) (k : Fin 64) :
    (completeReset s).record k = s.record k ∨ ((completeReset s).record k).state ≠ .final := by
  unfold completeReset
  split
  · split
    · exact .inr (by rw [warmReset_record]; decide)
    · exact .inl rfl
  all_goals exact .inl rfl

/-- An advance keeps a FINAL record or frees it. -/
theorem advanced_final (x : Advance) (φ : Fin 24) {w : State} (a : w.Accounted) {k : Fin 64}
    (final : (w.record k).state = .final) :
    (advanced x φ w).record k = w.record k ∨ ((advanced x φ w).record k).state ≠ .final := by
  have away : (w.record k).state ≠ .loaded := by rw [final]; decide
  cases x with
  | forward =>
    by_cases exits : k = w.slotAt 63
    · subst exits
      refine .inr ?_
      cases fed : fedFlag φ w with
      | false =>
        obtain ⟨-, -, cleared, -⟩ := entered_held φ w fed
        rw [advanced_notLoaded φ w (by rw [cleared]; decide), cleared]
        decide
      | true =>
        obtain ⟨c, p, -, -, e⟩ := entered_fed φ w fed
        have below := (a.ordered_of (k := w.slotAt 63) (by rw [final]; decide)).gate
        rw [advanced_away (by rw [entered_zero]; omega), (arrivals_quiet φ w).state, entered_first φ w e]
        exact nofun
    · have moved := entered_record φ w exits
      exact .inl ((advanced_notLoaded φ w (by rw [moved]; exact away)).trans moved)
  | reverse =>
    have jogged := (Quiet.jogBackArrival (originReverse (backOut w))).kept k
    have gone := State.Accounted.backedOut_record w k
    rw [advanced_reverse]
    rw [originReverse_record, gone] at jogged
    split at jogged
    · rw [jogged (by decide)]
      exact .inr (by decide)
    · exact .inl (jogged away)
  | dwell => exact .inl rfl

/-- Settles O53: by the turns of the ring. -/
theorem verdictsStand : Obligations.VerdictsStand := by
  intro c s t k accounted taken final
  have away : (s.record k).state ≠ .loaded := by rw [final]; decide
  cases exec_turn taken with
  | rests rest => exact .inl (rest.kept k away)
  | advance x f rs tu =>
    have before : (checked f s).record k = s.record k := (checked_quiet f s).kept k away
    have after : t.record k = (advanced x f.phase (checked f s)).record k := congrArg (·.ring[k]) tu
    rw [after, ← before]
    exact advanced_final x f.phase (checked_accounted accounted f) (by rw [before]; exact final)
  | request before served after =>
    have was := before.kept k away
    have kept := (served.kept (by rw [was]; exact away)).trans was
    exact .inl ((after.kept k (by rw [kept]; exact away)).trans kept)
  | clear => exact .inl (completeClear_record s k)
  | reset => exact completeReset_record s k
  | cold => exact .inr (by rw [coldReset_empty accounted]; decide)

end Sys2Proof.Machine
end
